-- ==== Sys2Proof/Word.lean ====
section
/-! DEFINITION. The data words of the block: the 8-bit byte, the 16-bit raw word, the 67-bit command word,
and the eight-element vector that frames, seeds, keys and the permutation table are. -/

namespace Sys2Proof

/-- A byte is 8 bits (spec/00_scope.md R6). -/
abbrev Byte := BitVec 8

/-- The raw word of a plain frame, 16 bits unsigned (spec/30_encoding.md R54). -/
abbrev RawWord := BitVec 16

/-- The command word, 67 bits: op, flag, data (spec/30_encoding.md R50). -/
abbrev CommandWord := BitVec 67

/-- A vector of exactly eight elements, numbered 0 to 7 (spec/00_scope.md R6, section 6; spec/20_memory.md R30):
the length is part of the type, so a frame of another length cannot be written (spec/20_memory.md R33). -/
@[ext] structure Eight (α : Type) where
  b0 : α
  b1 : α
  b2 : α
  b3 : α
  b4 : α
  b5 : α
  b6 : α
  b7 : α
deriving DecidableEq, Repr

/-- `F[i]` (spec/00_scope.md section 6): every index 0 to 7 is valid. -/
def Eight.get {α : Type} (f : Eight α) (i : Fin 8) : α :=
  match i with
  | 0 => f.b0
  | 1 => f.b1
  | 2 => f.b2
  | 3 => f.b3
  | 4 => f.b4
  | 5 => f.b5
  | 6 => f.b6
  | 7 => f.b7

/-- The vector whose element i is `g i`: the `for i in 0..7` of the spec's pseudocode. -/
def Eight.ofFn {α : Type} (g : Fin 8 → α) : Eight α :=
  ⟨g 0, g 1, g 2, g 3, g 4, g 5, g 6, g 7⟩

/-- Eight equal elements. -/
def Eight.fill {α : Type} (a : α) : Eight α := Eight.ofFn fun _ => a

/-- A frame (raw or plain) and a seed are eight bytes (spec/00_scope.md R6). -/
abbrev Frame := Eight Byte

end Sys2Proof
end

