-- ==== Sys2Proof/Config.lean ====
section
/-! DEFINITION. The block's constants as one record (spec/00_scope.md R4, R5). The record's values stand in
`Sys2Proof/Machine/Constants.lean`; here is only what they are. FRAME_BYTES = SEED_BYTES = 8 is the type `Eight`.
The open parameter REG_MAP is an argument of `Sys2Proof.Machine.State.readAt` (log entry 10); LATENCY has no place in the
model, which has no time (log entry 10). -/

namespace Sys2Proof

/-- The constants of spec/00_scope.md R4. All of them are wired: no transaction reads or writes one
(spec/20_memory.md R39). -/
structure Config where
  /-- PERM: the input index for each output index of the permutation stage (spec/30_encoding.md R52). -/
  perm : Eight (Fin 8)
  /-- ROT_RIGHT: bit positions of the right rotation of the 64-bit word. -/
  rotRight : Nat
  /-- KEY_STRING: the characters whose nibble-swapped codes are the subtraction key (spec/30_encoding.md R49). -/
  keyString : Eight Char
  /-- MARKER_INDEX: the byte index of the marker in a plain frame. -/
  markerIndex : Fin 8
  /-- MARKER: the value the marker byte must have. -/
  marker : Byte
  /-- CHECKSUM_INDEX: the byte index of the checksum in a plain frame. -/
  checksumIndex : Fin 8
  /-- CODE_TEMP: the measurement code of ambient temperature. -/
  codeTemp : Byte
  /-- CODE_CO2: the measurement code of CO2 concentration. -/
  codeCo2 : Byte
  /-- CO2_MAX: the largest CO2 word that is accepted. -/
  co2Max : Nat
  /-- TEMP_SCALE in units of 0.0001 degree Celsius: 0.0625 is 625 of them (spec/42_extractor.md R89). -/
  tempScaleE4 : Int
  /-- TEMP_OFFSET in units of 0.0001 degree Celsius: 273.15 is 2731500 of them (spec/42_extractor.md R89). -/
  tempOffsetE4 : Int
deriving DecidableEq, Repr

end Sys2Proof
end

