-- ==== Sys2Proof/Machine/Constants.lean ====
section
/-! DEFINITION. The values of the block's constants (spec/00_scope.md R4): the one place a corrected literal
touches (R5). -/

namespace Sys2Proof.Machine

/-- The constants as wired into the block. UNVERIFIED, unsafe (log entry 8): the spec makes these literals normative
and records that nobody has audited them. -/
def wired : Config where
  perm := ⟨2, 4, 0, 7, 1, 6, 5, 3⟩
  rotRight := 3
  keyString := ⟨'H', 't', 'e', 'm', 'p', '9', '9', 'e'⟩
  markerIndex := 4
  marker := 0x0D
  checksumIndex := 3
  codeTemp := 0x42
  codeCo2 := 0x50
  co2Max := 3000
  tempScaleE4 := 625
  tempOffsetE4 := 2731500

end Sys2Proof.Machine
end

