-- ==== Sys2Proof/Syntax.lean ====
section
/-! DEFINITION. Everything the block performs, one constructor per row of spec/opcode_table.json, and the forms in
which a row is selected: the reset pin, the command word, the place inside a FRAME, the plain frame. -/

namespace Sys2Proof

/-- The 17 rows of spec/opcode_table.json (spec/30_encoding.md R58): five transactions, nine stages of the FRAME
transaction, three entries of the measurement code map. The operands are those the row's rule uses; bits a row
ignores (spec/43_transactions.md R105, spec/30_encoding.md R46) are no operand. -/
inductive Instr where
  /-- RESET, the input `rst` (spec/43_transactions.md R96). -/
  | reset
  /-- NOP, op 0b00 (R97). -/
  | nop
  /-- CFG, op 0b01: the `scrambled` boolean and the seed as `W64` (R98, R99). -/
  | cfg (flag : Bool) (data : BitVec 64)
  /-- FRAME, op 0b10: the raw frame as `W64` (R100, R101). -/
  | frame (data : BitVec 64)
  /-- RSVD3, op 0b11, reserved (R102). -/
  | rsvd3
  /-- BYPASS, the pass-through of the descrambler (spec/40_descrambler.md R61). -/
  | bypass
  /-- PERM, stage 1 (R62). -/
  | perm
  /-- XORSEED, stage 2 (R63). -/
  | xorseed
  /-- ROTR3, stage 3 (R64). -/
  | rotr3
  /-- SUBKEY, stage 4 (R65). -/
  | subkey
  /-- CHKMARK, the marker check (spec/41_validator.md R76). -/
  | chkmark
  /-- CHKSUM, the checksum check (R77). -/
  | chksum
  /-- VALIDATE, the verdict from the two checks (R75). -/
  | validate
  /-- EXTRACT, the five extractor values (spec/42_extractor.md R85). -/
  | extract
  /-- MEAS.TEMP, code 0x42: the raw word (R87). -/
  | measTemp (word : RawWord)
  /-- MEAS.CO2, code 0x50: the raw word (R88). -/
  | measCo2 (word : RawWord)
  /-- MEAS.OTHER, the default row: any other code, and the raw word (R90). -/
  | measOther (code : Byte) (word : RawWord)
deriving DecidableEq, Repr

/-- How far a FRAME transaction has got. A stage has no selecting bits of its own (spec/30_encoding.md R58): it is
selected by this place in the fixed order of spec/10_state.md R24, and by SCR. -/
inductive Phase where
  /-- the raw frame has been taken from the command word: BYPASS or PERM is next -/
  | raw
  /-- P1 is there: XORSEED is next -/
  | p1
  /-- P2 is there: ROTR3 is next -/
  | p2
  /-- P3 is there: SUBKEY is next -/
  | p3
  /-- the plain frame is there: CHKMARK is next -/
  | plain
  /-- the marker is checked: CHKSUM is next -/
  | marked
  /-- both checks are there: VALIDATE is next -/
  | summed
  /-- the measurement is there: EXTRACT is next -/
  | measured
  /-- no stage is left to run -/
  | finished
deriving DecidableEq, Repr

/-- The encoded objects by which a row of the table is selected, one constructor per format of the table
(spec/30_encoding.md R45, R58): PIN, CW, STAGE, PF. -/
inductive Encoded where
  /-- format PIN: `rst` is asserted; no command-word bit takes part (spec/43_transactions.md R106) -/
  | rst
  /-- format CW: a 67-bit command word -/
  | command (w : CommandWord)
  /-- format STAGE: no bits; SCR and the place inside the FRAME transaction -/
  | stage (scr : Bool) (place : Phase)
  /-- format PF: `W64` of a plain frame, at the point where its code selects the measurement -/
  | plain (w : BitVec 64)
deriving DecidableEq, Repr

/-- Why an encoded object selects no row, by name. A command word and the reset pin are never rejected
(spec/30_encoding.md R51). -/
inductive Reject where
  /-- a plain frame whose marker byte is wrong selects no code-map row (R46, R55) -/
  | badMarker
  /-- a plain frame whose checksum is wrong selects no code-map row (R46, R55) -/
  | badChecksum
  /-- with this SCR no stage stands at this place of the chain (spec/10_state.md R24) -/
  | noStage
deriving DecidableEq, Repr

end Sys2Proof
end

