-- ==== Sys2Proof/Machine/State.lean ====
section
/-! DEFINITION. The state of the block: the twelve registers of spec/10_state.md R11, and three fields of the model's
own (the frame in flight, the transactions still to come, the last outcome), which are no registers. -/

namespace Sys2Proof.Machine

/-- MODE (spec/10_state.md R12). Three-valued: the register's fourth value is never written, and the spec asks the
model's type to exclude it (spec/93_implementation_defined.md U15; log entry 6). -/
inductive Mode where
  | unconf
  | ready
  | faulted
deriving DecidableEq, Repr

/-- FCAUSE (spec/10_state.md R15, spec/60_exceptions.md R110). Six-valued (U15; log entry 6). -/
inductive Cause where
  | none
  | badMarker
  | badChecksum
  | notConfigured
  | cfgLocked
  | illegalOp
deriving DecidableEq, Repr

/-- KIND (spec/10_state.md R18). Three-valued (U15; log entry 6). -/
inductive Kind where
  | none
  | temp
  | co2
deriving DecidableEq, Repr

/-- The verdict of VALIDATE (spec/41_validator.md R75). -/
inductive Verdict where
  | ok
  | badMarker
  | badChecksum
deriving DecidableEq, Repr

/-- The triple VALIDATE returns (spec/41_validator.md R75). -/
structure Validation where
  em : Bool
  ec : Bool
  verdict : Verdict
deriving DecidableEq, Repr

/-- What a code-map row yields: KIND, TEMP_E4 and CO2_PPM (spec/42_extractor.md R87, R88, R90). -/
structure Measurement where
  kind : Kind
  tempE4 : BitVec 32
  co2Ppm : BitVec 16
deriving DecidableEq, Repr

/-- The five values EXTRACT returns (spec/42_extractor.md R85). -/
structure Extracted where
  kind : Kind
  code : Byte
  word : RawWord
  tempE4 : BitVec 32
  co2Ppm : BitVec 16
deriving DecidableEq, Repr

/-- The outcome of a transaction (spec/43_transactions.md R95). -/
inductive TxOutcome where
  /-- the transaction was performed -/
  | done
  /-- it put the block in FAULTED -/
  | fault (cause : Cause)
  /-- the block was already FAULTED and nothing changed -/
  | ignored
deriving DecidableEq, Repr

/-- What the host presents for one transaction: the reset input and at most one command word
(spec/43_transactions.md R106). -/
structure PortSample where
  rst : Bool
  cmd : Option CommandWord
deriving DecidableEq, Repr

/-- The locals of the FRAME transaction being performed (spec/10_state.md R25, spec/43_transactions.md R100): the
buffers after each stage, the checks, the verdict, the extractor's values. They exist only inside one FRAME. -/
inductive Flight where
  /-- RAW, the raw frame taken from the command word -/
  | raw (b : Frame)
  /-- P1, after PERM -/
  | p1 (b : Frame)
  /-- P2, after XORSEED -/
  | p2 (b : Frame)
  /-- P3, after ROTR3 -/
  | p3 (b : Frame)
  /-- p, the plain frame DECODE returned -/
  | plain (p : Frame)
  /-- p and em, after CHKMARK -/
  | marked (p : Frame) (em : Bool)
  /-- p, em and ec, after CHKSUM -/
  | summed (p : Frame) (em ec : Bool)
  /-- p and VALIDATE's triple -/
  | judged (p : Frame) (v : Validation)
  /-- p, VALIDATE's triple and the measurement a code-map row gave -/
  | measured (p : Frame) (v : Validation) (m : Measurement)
  /-- p, VALIDATE's triple and EXTRACT's values -/
  | extracted (p : Frame) (v : Validation) (x : Extracted)
deriving DecidableEq, Repr

/-- The twelve architectural registers of spec/10_state.md R11, then the model's own three fields. -/
structure State where
  /-- MODE, 2 bits (R12) -/
  mode : Mode
  /-- SEED[0..7] (R13) -/
  seed : Frame
  /-- SCR, 1 bit (R14) -/
  scr : Bool
  /-- FCAUSE, 3 bits (R15) -/
  fcause : Cause
  /-- PLAIN[0..7] (R16) -/
  plain : Frame
  /-- ERR_MARKER (R17) -/
  errMarker : Bool
  /-- ERR_CHECKSUM (R17) -/
  errChecksum : Bool
  /-- KIND, 2 bits (R18) -/
  kind : Kind
  /-- CODE, 8 bits (R19) -/
  code : Byte
  /-- WORD, 16 bits (R20) -/
  word : RawWord
  /-- TEMP_E4, 32 bits, two's complement (R21) -/
  tempE4 : BitVec 32
  /-- CO2_PPM, 16 bits (R22) -/
  co2Ppm : BitVec 16
  /-- the model's own (log entry 1): the locals of a FRAME being performed; `none` between transactions -/
  flight : Option Flight
  /-- the model's own (log entry 2): what the host presents in the transactions to come, the next one first -/
  inputs : List PortSample
  /-- the model's own (log entry 3): the outcome returned to the host for the last transaction -/
  outcome : Option TxOutcome
deriving DecidableEq, Repr

/-- The machine stops. A fault of the BLOCK (spec/60_exceptions.md R110) is not one of these: it is a next state in
mode FAULTED. -/
inductive Fault where
  /-- Raised by the meanings of RESET, NOP, CFG, FRAME and RSVD3 when a FRAME is still in flight: two transactions at
  once have no transition (spec/93_implementation_defined.md U16, treatment `stuck`). Safe (log entry 4). `step` never
  raises it. -/
  | overlappingTransaction
deriving DecidableEq, Repr

/-- The model gives no meaning. -/
inductive Refusal where
  /-- Raised by an arm of `exec` whose instruction has no meaning yet. Safe. -/
  | notModelled (mnemonic : String)
  /-- Raised by the meaning of a stage or code-map row when no FRAME in flight stands where the row's condition
  holds (spec/30_encoding.md R57, R58: the host cannot invoke a stage on its own). Safe (log entry 5). -/
  | stageNotSelected
  /-- Raised by `step` when the object fetched selects no row of the table; only a frame in flight that no run
  reaches leads there. Safe (log entry 5). -/
  | undecoded (why : Reject)
deriving DecidableEq, Repr

/-- The state after RESET and at power-on: every register as the table of spec/10_state.md R27 says
(spec/70_reset_and_hazards.md R125). No frame is in flight, the host has nothing to present, nothing has been
returned (log entries 1, 2, 3). -/
def State.reset : State where
  mode := .unconf
  seed := ⟨0, 0, 0, 0, 0, 0, 0, 0⟩
  scr := false
  fcause := .none
  plain := ⟨0, 0, 0, 0, 0, 0, 0, 0⟩
  errMarker := false
  errChecksum := false
  kind := .none
  code := 0
  word := 0
  tempE4 := 0
  co2Ppm := 0
  flight := none
  inputs := []
  outcome := none

end Sys2Proof.Machine
end

