-- ==== Sys2Proof/Machine/Operands.lean ====
section
/-! DEFINITION. Packing and fields: bytes and the 64-bit word, the command word's fields, the plain frame's fields,
the key, the register encodings and what the host reads. -/

namespace Sys2Proof.Machine

/-! ## Bytes and the 64-bit word -/

/-- Byte i of a frame at its place in the 64-bit word: bits 63-8i down to 56-8i (spec/20_memory.md R32). -/
def lane (b : Byte) (i : Nat) : BitVec 64 := b.setWidth 64 <<< (8 * (7 - i))

/-- `W64(F)`, byte 0 most significant (spec/00_scope.md section 6, spec/20_memory.md R31, R32). -/
def w64 (f : Frame) : BitVec 64 :=
  lane f.b0 0 ||| lane f.b1 1 ||| lane f.b2 2 ||| lane f.b3 3 ||| lane f.b4 4 ||| lane f.b5 5 ||| lane f.b6 6 |||
    lane f.b7 7

/-- `BYTES(w)[i] = (w >> (8·(7−i))) & 0xFF` (spec/00_scope.md section 6). -/
def bytes (w : BitVec 64) : Frame := Eight.ofFn fun i => (w >>> (8 * (7 - i.val))).setWidth 8

/-- `ROTR64(w, n) = (w >> n) | (w << (64 − n))` (spec/00_scope.md section 6). -/
def rotr64 (w : BitVec 64) (n : Nat) : BitVec 64 := (w >>> n) ||| (w <<< (64 - n))

/-- The rotation the other way, `(w << n) | (w >> (64 − n))`, of SCRAMBLE (spec/40_descrambler.md R70). -/
def rotl64 (w : BitVec 64) (n : Nat) : BitVec 64 := (w <<< n) ||| (w >>> (64 - n))

/-- `swap4(b)`: the two 4-bit halves exchanged (spec/00_scope.md section 6). -/
def swap4 (b : Byte) : Byte := (b >>> 4) ||| (b <<< 4)

/-- `KEY[i] = swap4(KEY_STRING[i])` (spec/30_encoding.md R49). The codes of the characters are those of Lean's `Char`,
which agree with ASCII: PRESUMED, spec/93_implementation_defined.md G1 (log entry 8). -/
def keyOf (c : Config) : Frame := Eight.ofFn fun i => swap4 (BitVec.ofNat 8 (c.keyString.get i).toNat)

/-! ## The command word (spec/30_encoding.md R50) -/

/-- op, bits 66:65. -/
def opField (w : CommandWord) : BitVec 2 := (w >>> 65).setWidth 2

/-- flag, bit 64. -/
def flagField (w : CommandWord) : Bool := w.getLsbD 64

/-- data, bits 63:0. -/
def dataField (w : CommandWord) : BitVec 64 := w.setWidth 64

/-- `op ++ flag ++ data`, 67 bits (spec/30_encoding.md R57). -/
def commandWord (op : BitVec 2) (flag : Bool) (data : BitVec 64) : CommandWord :=
  (op.setWidth 67 <<< 65) ||| ((BitVec.ofBool flag).setWidth 67 <<< 64) ||| data.setWidth 67

/-! ## The plain frame (spec/30_encoding.md R46) -/

/-- CODE, byte 0 (spec/42_extractor.md R86). -/
def codeOf (p : Frame) : Byte := p.get 0

/-- WORD = (byte 1 << 8) | byte 2, on 16 bits, unsigned (spec/30_encoding.md R54, spec/42_extractor.md R86). -/
def wordOf (p : Frame) : RawWord := ((p.get 1).setWidth 16 <<< 8) ||| (p.get 2).setWidth 16

/-- The more significant byte of a raw word, byte 1 of its frame. -/
def wordHi (w : RawWord) : Byte := (w >>> 8).setWidth 8

/-- The less significant byte of a raw word, byte 2 of its frame. -/
def wordLo (w : RawWord) : Byte := w.setWidth 8

/-- The checksum operand `(byte 0 + byte 1 + byte 2) mod 256` (spec/41_validator.md R77): summed over the integers and
reduced once. -/
def checksumOf (b0 b1 b2 : Byte) : Byte := BitVec.ofNat 8 ((b0.toNat + b1.toNat + b2.toNat) % 256)

/-- The plain frame of a code and a word with a right checksum, the marker, and zeros in the three bytes no rule reads
(spec/30_encoding.md R46): what the encoder writes for a code-map row (log entry 7). -/
def plainFrame (code : Byte) (word : RawWord) : Frame :=
  ⟨code, wordHi word, wordLo word, checksumOf code (wordHi word) (wordLo word), wired.marker, 0, 0, 0⟩

/-! ## Register encodings -/

/-- MODE's 2 bits (spec/10_state.md R12). -/
def Mode.bits (m : Mode) : BitVec 2 :=
  match m with
  | .unconf => 0
  | .ready => 1
  | .faulted => 2

/-- FCAUSE's 3 bits (spec/10_state.md R15, spec/60_exceptions.md R110). -/
def Cause.bits (c : Cause) : BitVec 3 :=
  match c with
  | .none => 0
  | .badMarker => 1
  | .badChecksum => 2
  | .notConfigured => 3
  | .cfgLocked => 4
  | .illegalOp => 5

/-- KIND's 2 bits (spec/10_state.md R18). -/
def Kind.bits (k : Kind) : BitVec 2 :=
  match k with
  | .none => 0
  | .temp => 1
  | .co2 => 2

end Sys2Proof.Machine
end

