-- ==== Sys2Proof/Machine/Flags.lean ====
section
/-! DEFINITION. The two flags and the verdict: CHKMARK, CHKSUM and VALIDATE as functions of a plain frame
(spec/41_validator.md). -/

namespace Sys2Proof.Machine

/-- CHKMARK: em is 1 when byte 4 is not the marker; all eight bits are compared (spec/41_validator.md R76). -/
def chkmark (p : Frame) : Bool := p.get wired.markerIndex != wired.marker

/-- CHKSUM: ec is 1 when `(byte 0 + byte 1 + byte 2) mod 256` is not byte 3 (spec/41_validator.md R77). -/
def chksum (p : Frame) : Bool := checksumOf (p.get 0) (p.get 1) (p.get 2) != p.get wired.checksumIndex

/-- The verdict from the two checks, marker first (spec/41_validator.md R75, R78). -/
def verdictOf (em ec : Bool) : Verdict :=
  if em then .badMarker else if ec then .badChecksum else .ok

/-- VALIDATE: both checks, always, and the verdict (spec/41_validator.md R75). -/
def validate (p : Frame) : Validation :=
  let em := chkmark p
  let ec := chksum p
  { em := em, ec := ec, verdict := verdictOf em ec }

/-- The fault cause a verdict that is not `ok` leads to (spec/41_validator.md R78, spec/60_exceptions.md R110). -/
def Verdict.cause (v : Verdict) : Cause :=
  match v with
  | .ok => .none
  | .badMarker => .badMarker
  | .badChecksum => .badChecksum

end Sys2Proof.Machine
end

