-- ==== Sys2Proof/Machine/Ops.lean ====
section
/-! DEFINITION. The named operations over the registers: fault entry, the returned outcome, loading the configuration,
writing the result registers, the rule every transaction starts with, the rule every stage starts with. -/

namespace Sys2Proof.Machine

/-- The outcome returned to the host (spec/43_transactions.md R95). -/
def State.reply (s : State) (o : TxOutcome) : State := { s with outcome := some o }

/-- `raise Fault(cause)`: taking a fault, the one place the block enters FAULTED (spec/60_exceptions.md R116). Nothing
else is saved; there is no handler and no return but RESET (R117). -/
def State.raiseFault (s : State) (c : Cause) : State :=
  { s with mode := .faulted, fcause := c, outcome := some (.fault c) }

/-- RESET's effect: every register at its reset value (spec/43_transactions.md R96, spec/10_state.md R27). What the host
has still to present is the host's and stays. -/
def State.resetRegisters (s : State) : State := { State.reset with inputs := s.inputs, outcome := some .done }

/-- CFG's effect: the session's seed and variant, and READY (spec/43_transactions.md R98). -/
def State.configure (s : State) (seed : Frame) (scr : Bool) : State :=
  { s with seed := seed, scr := scr, mode := .ready }

/-- EXTRACT_CLEARED: the extractor's values for a frame that is not valid (spec/42_extractor.md R85). -/
def Extracted.cleared : Extracted := { kind := .none, code := 0, word := 0, tempE4 := 0, co2Ppm := 0 }

/-- The eight result registers, written together (spec/10_state.md R11, spec/20_memory.md R34). -/
def State.writeResults (s : State) (p : Frame) (em ec : Bool) (x : Extracted) : State :=
  { s with plain := p, errMarker := em, errChecksum := ec, kind := x.kind, code := x.code, word := x.word,
           tempE4 := x.tempE4, co2Ppm := x.co2Ppm }

/-- The end of a FRAME whose frame is valid: results written, outcome `done`, MODE stays READY
(spec/43_transactions.md R100). -/
def State.endValid (s : State) (p : Frame) (v : Validation) (x : Extracted) : State :=
  (s.writeResults p v.em v.ec x).reply .done

/-- The end of a FRAME whose frame is not valid: PLAIN and both flags written, the extractor's registers cleared, and
the fault taken as the last effect (spec/43_transactions.md R100, spec/60_exceptions.md R116). -/
def State.endInvalid (s : State) (p : Frame) (v : Validation) : State :=
  (s.writeResults p v.em v.ec Extracted.cleared).raiseFault v.verdict.cause

/-- The locals of the FRAME transaction; they are no register. -/
def State.setFlight (s : State) (f : Option Flight) : State := { s with flight := f }

/-- A transaction as a whole (spec/43_transactions.md R95): transactions are totally ordered and one is complete before
the next (spec/20_memory.md R37), so none begins while a FRAME is in flight (log entry 4). -/
def State.transact (s : State) (run : State → State) : Host.Outcome State Fault Refusal :=
  match s.flight with
  | some _ => .fault .overlappingTransaction
  | none => .next (run s)

/-- A command: in FAULTED it is ignored, whatever it is (spec/43_transactions.md R103); else it runs. -/
def State.command (s : State) (run : State → State) : Host.Outcome State Fault Refusal :=
  s.transact fun s => if s.mode = .faulted then s.reply .ignored else run s

/-- A stage of the FRAME in flight: it runs when MODE = READY and its own condition holds (the `condition` of its row
of spec/opcode_table.json), from where `next` takes the locals; else it is not selected (log entry 5). It writes no
register (spec/40_descrambler.md R60 to R65, spec/41_validator.md R80). -/
def State.runStage (s : State) (selected : Bool) (next : Flight → Option Flight) : Host.Outcome State Fault Refusal :=
  if s.mode = .ready ∧ selected = true then
    match s.flight.bind next with
    | some f => .next (s.setFlight (some f))
    | none => .refused .stageNotSelected
  else .refused .stageNotSelected

end Sys2Proof.Machine
end

