-- ==== Sys2Proof/Machine/Descrambler.lean ====
section
/-! DEFINITION. The descrambler: the stages as functions, DECODE, its inverse SCRAMBLE, and the meanings of the rows
BYPASS, PERM, XORSEED, ROTR3 and SUBKEY (spec/40_descrambler.md). The functions take the constants as an argument, so
that what holds for any constants can be said (spec/93_implementation_defined.md U7). -/

namespace Sys2Proof.Machine

/-- BYPASS: the raw frame unchanged (R61). -/
def bypassStage (f : Frame) : Frame := Eight.ofFn fun i => f.get i

/-- PERM: the byte at output position i comes from input position `PERM[i]` (R62). -/
def permStage (c : Config) (f : Frame) : Frame := Eight.ofFn fun i => f.get (c.perm.get i)

/-- XORSEED: byte i of the permuted frame with byte i of the seed (R63). -/
def xorStage (f seed : Frame) : Frame := Eight.ofFn fun i => f.get i ^^^ seed.get i

/-- ROTR3: the eight bytes as one big-endian 64-bit word, rotated right (R64). The direction is the spec's resolution
of its source's contradiction (spec/90_conflicts.md C1): DEDUCED, unsafe (log entry 8). -/
def rotStage (c : Config) (f : Frame) : Frame := bytes (rotr64 (w64 f) c.rotRight)

/-- SUBKEY: byte i minus `KEY[i]` modulo 256; no borrow crosses bytes (R65). -/
def subStage (c : Config) (f : Frame) : Frame := Eight.ofFn fun i => f.get i - (keyOf c).get i

/-- DECODE: the four stages in order when scr = 1, BYPASS when scr = 0 (R60, R67). -/
def decodeFrame (c : Config) (raw seed : Frame) (scr : Bool) : Frame :=
  if scr then
    let p1 := permStage c raw
    let p2 := xorStage p1 seed
    let p3 := rotStage c p2
    subStage c p3
  else bypassStage raw

/-- SCRAMBLE, the inverse of DECODE with scr = 1 (R70). It is no part of the hardware and no meaning calls it. -/
def scrambleFrame (c : Config) (plain seed : Frame) : Frame :=
  let a := Eight.ofFn fun i => plain.get i + (keyOf c).get i
  let b := bytes (rotl64 (w64 a) c.rotRight)
  let d := xorStage b seed
  permStage c d

/-- The row BYPASS: runs on the raw frame when SCR = 0. -/
def execBypass (s : State) : Host.Outcome State Fault Refusal :=
  s.runStage (!s.scr) fun f =>
    match f with
    | .raw b => some (.plain (bypassStage b))
    | _ => none

/-- The row PERM: runs on the raw frame when SCR = 1. -/
def execPerm (s : State) : Host.Outcome State Fault Refusal :=
  s.runStage s.scr fun f =>
    match f with
    | .raw b => some (.p1 (permStage wired b))
    | _ => none

/-- The row XORSEED: runs on P1 with the register SEED when SCR = 1. -/
def execXorseed (s : State) : Host.Outcome State Fault Refusal :=
  s.runStage s.scr fun f =>
    match f with
    | .p1 b => some (.p2 (xorStage b s.seed))
    | _ => none

/-- The row ROTR3: runs on P2 when SCR = 1. -/
def execRotr3 (s : State) : Host.Outcome State Fault Refusal :=
  s.runStage s.scr fun f =>
    match f with
    | .p2 b => some (.p3 (rotStage wired b))
    | _ => none

/-- The row SUBKEY: runs on P3 when SCR = 1; its result is the plain frame. -/
def execSubkey (s : State) : Host.Outcome State Fault Refusal :=
  s.runStage s.scr fun f =>
    match f with
    | .p3 b => some (.plain (subStage wired b))
    | _ => none

end Sys2Proof.Machine
end

