-- ==== Sys2Proof/Machine/Extractor.lean ====
section
/-! DEFINITION. The measurement field extractor: its functions, and the meanings of the rows EXTRACT, MEAS.TEMP, MEAS.CO2
and MEAS.OTHER (spec/42_extractor.md). -/

namespace Sys2Proof.Machine

/-- MEAS.TEMP: `TEMP_E4 = word · 625 − 2731500`, exact over the integers and narrowed once to 32 bits; every word yields
a temperature (R87, R89, R91). -/
def measureTemp (c : Config) (word : RawWord) : Measurement where
  kind := .temp
  tempE4 := BitVec.ofInt 32 ((word.toNat : Int) * c.tempScaleE4 - c.tempOffsetE4)
  co2Ppm := 0

/-- MEAS.CO2: the word itself where it is at most 3000, compared unsigned; nothing otherwise (R88). -/
def measureCo2 (c : Config) (word : RawWord) : Measurement :=
  if word.toNat ≤ c.co2Max then { kind := .co2, tempE4 := 0, co2Ppm := word }
  else { kind := .none, tempE4 := 0, co2Ppm := 0 }

/-- MEAS.OTHER: nothing (R90). -/
def measureOther : Measurement := { kind := .none, tempE4 := 0, co2Ppm := 0 }

/-- The dispatch on CODE inside EXTRACT (R85). -/
def measureCode (c : Config) (code : Byte) (word : RawWord) : Measurement :=
  if code = c.codeTemp then measureTemp c word
  else if code = c.codeCo2 then measureCo2 c word
  else measureOther

/-- The five values from a plain frame and its measurement: CODE and WORD whatever the code (R86). -/
def assemble (p : Frame) (m : Measurement) : Extracted :=
  { kind := m.kind, code := codeOf p, word := wordOf p, tempE4 := m.tempE4, co2Ppm := m.co2Ppm }

/-- EXTRACT (R85). -/
def extract (c : Config) (p : Frame) : Extracted := assemble p (measureCode c (codeOf p) (wordOf p))

/-- The row EXTRACT: runs when the verdict is `ok` (R81); it dispatches on CODE itself where no code-map row has run yet
(log entry 1). -/
def execExtract (s : State) : Host.Outcome State Fault Refusal :=
  s.runStage true fun f =>
    match f with
    | .judged p v => if v.verdict = .ok then some (.extracted p v (extract wired p)) else none
    | .measured p v m => some (.extracted p v (assemble p m))
    | _ => none

/-- The row MEAS.TEMP (R87), on a frame whose verdict is `ok`. -/
def execMeasTemp (word : RawWord) (s : State) : Host.Outcome State Fault Refusal :=
  s.runStage true fun f =>
    match f with
    | .judged p v => if v.verdict = .ok then some (.measured p v (measureTemp wired word)) else none
    | _ => none

/-- The row MEAS.CO2 (R88), on a frame whose verdict is `ok`. -/
def execMeasCo2 (word : RawWord) (s : State) : Host.Outcome State Fault Refusal :=
  s.runStage true fun f =>
    match f with
    | .judged p v => if v.verdict = .ok then some (.measured p v (measureCo2 wired word)) else none
    | _ => none

/-- The row MEAS.OTHER (R90), on a frame whose verdict is `ok`: the code and the word have no part in what it
yields. -/
def execMeasOther (_code : Byte) (_word : RawWord) (s : State) : Host.Outcome State Fault Refusal :=
  s.runStage true fun f =>
    match f with
    | .judged p v => if v.verdict = .ok then some (.measured p v measureOther) else none
    | _ => none

end Sys2Proof.Machine
end

