-- ==== Sys2Proof/Machine/Transactions.lean ====
section
/-! DEFINITION. The meanings of the five transactions RESET, NOP, CFG, FRAME and RSVD3 (spec/43_transactions.md): each is
one atomic step (spec/20_memory.md R34), its outcome left in the field `outcome`. -/

namespace Sys2Proof.Machine

/-- RESET, from any mode (R96). -/
def execReset (s : State) : Host.Outcome State Fault Refusal := s.transact fun s => s.resetRegisters

/-- NOP (R97). -/
def execNop (s : State) : Host.Outcome State Fault Refusal := s.command fun s => s.reply .done

/-- CFG: in UNCONF it loads seed and variant (R98); in READY it faults CFG_LOCKED (R99). -/
def execCfg (flag : Bool) (data : BitVec 64) (s : State) : Host.Outcome State Fault Refusal :=
  s.command fun s =>
    match s.mode with
    | .unconf => (s.configure (bytes data) flag).reply .done
    | _ => s.raiseFault .cfgLocked

/-- FRAME in READY: DECODE, VALIDATE and, when the verdict is `ok`, EXTRACT (R100). -/
def State.performFrame (s : State) (data : BitVec 64) : State :=
  let p := decodeFrame wired (bytes data) s.seed s.scr
  let v := validate p
  if v.verdict = .ok then s.endValid p v (extract wired p) else s.endInvalid p v

/-- FRAME: in READY it is performed (R100); in UNCONF it faults NOT_CONFIGURED and nothing is decoded (R101). -/
def execFrame (data : BitVec 64) (s : State) : Host.Outcome State Fault Refusal :=
  s.command fun s =>
    match s.mode with
    | .ready => s.performFrame data
    | _ => s.raiseFault .notConfigured

/-- RSVD3 faults ILLEGAL_OP (R102). -/
def execRsvd3 (s : State) : Host.Outcome State Fault Refusal := s.command fun s => s.raiseFault .illegalOp

end Sys2Proof.Machine
end

