-- ==== Sys2Proof/Machine/Validator.lean ====
section
/-! DEFINITION. The meanings of the rows CHKMARK, CHKSUM and VALIDATE (spec/41_validator.md). They run in every performed
FRAME, with either SCR (R81). -/

namespace Sys2Proof.Machine

/-- The row CHKMARK (R76). -/
def execChkmark (s : State) : Host.Outcome State Fault Refusal :=
  s.runStage true fun f =>
    match f with
    | .plain p => some (.marked p (chkmark p))
    | _ => none

/-- The row CHKSUM (R77): it runs whatever CHKMARK found (R78). -/
def execChksum (s : State) : Host.Outcome State Fault Refusal :=
  s.runStage true fun f =>
    match f with
    | .marked p em => some (.summed p em (chksum p))
    | _ => none

/-- The row VALIDATE (R75): the verdict from the two checks, which it runs itself where they have not run yet (log
entry 1). -/
def execValidate (s : State) : Host.Outcome State Fault Refusal :=
  s.runStage true fun f =>
    match f with
    | .plain p => some (.judged p (validate p))
    | .summed p em ec => some (.judged p { em := em, ec := ec, verdict := verdictOf em ec })
    | _ => none

end Sys2Proof.Machine
end

