-- ==== Sys2Proof/Machine/Dispatch.lean ====
section
/-! DEFINITION. exec: one arm per row of spec/opcode_table.json. -/

namespace Sys2Proof.Machine

def exec (i : Instr) (s : State) : Host.Outcome State Fault Refusal :=
  match i with
  | .reset => Sys2Proof.Machine.execReset s
  | .nop => Sys2Proof.Machine.execNop s
  | .cfg flag data => Sys2Proof.Machine.execCfg flag data s
  | .frame data => Sys2Proof.Machine.execFrame data s
  | .rsvd3 => Sys2Proof.Machine.execRsvd3 s
  | .bypass => Sys2Proof.Machine.execBypass s
  | .perm => Sys2Proof.Machine.execPerm s
  | .xorseed => Sys2Proof.Machine.execXorseed s
  | .rotr3 => Sys2Proof.Machine.execRotr3 s
  | .subkey => Sys2Proof.Machine.execSubkey s
  | .chkmark => Sys2Proof.Machine.execChkmark s
  | .chksum => Sys2Proof.Machine.execChksum s
  | .validate => Sys2Proof.Machine.execValidate s
  | .extract => Sys2Proof.Machine.execExtract s
  | .measTemp word => Sys2Proof.Machine.execMeasTemp word s
  | .measCo2 word => Sys2Proof.Machine.execMeasCo2 word s
  | .measOther code word => Sys2Proof.Machine.execMeasOther code word s

end Sys2Proof.Machine
end

