-- ==== Sys2Proof/WellFormed.lean ====
section
/-! DEFINITION. Which instructions the encodings of the spec can express. -/

namespace Sys2Proof

/-- The operands an encoding of the row can carry. Only MEAS.OTHER restricts its operands: it is the default row and
applies when neither of the two recognised codes matches (spec/30_encoding.md R53, R58). -/
def Instr.wellFormed (i : Instr) : Bool :=
  match i with
  | .reset => true
  | .nop => true
  | .cfg _ _ => true
  | .frame _ => true
  | .rsvd3 => true
  | .bypass => true
  | .perm => true
  | .xorseed => true
  | .rotr3 => true
  | .subkey => true
  | .chkmark => true
  | .chksum => true
  | .validate => true
  | .extract => true
  | .measTemp _ => true
  | .measCo2 _ => true
  | .measOther code _ => code != Machine.wired.codeTemp && code != Machine.wired.codeCo2

end Sys2Proof
end

