-- ==== Sys2Proof/Decode.lean ====
section
/-! DEFINITION. The decoder, total and rejecting by name, and after it the encoder (spec/30_encoding.md R58: "split the
command word by rule R50; dispatch on op by rule R51; inside FRAME dispatch on SCR, then on the two checks, then on
CODE by rule R53"). -/

namespace Sys2Proof

open Sys2Proof.Machine

/-- A command word: dispatch on op (spec/30_encoding.md R50, R51). Every word decodes; the bits a transaction does not
use are dropped here (spec/43_transactions.md R105). -/
def decodeCommand (w : CommandWord) : Instr :=
  if opField w = 0 then .nop
  else if opField w = 1 then .cfg (flagField w) (dataField w)
  else if opField w = 2 then .frame (dataField w)
  else .rsvd3

/-- A place inside the FRAME transaction: the stage that SCR and the fixed order put there (spec/10_state.md R24). -/
def decodeStage (scr : Bool) (place : Phase) : Except Reject Instr :=
  match place, scr with
  | .raw, false => .ok .bypass
  | .raw, true => .ok .perm
  | .p1, true => .ok .xorseed
  | .p2, true => .ok .rotr3
  | .p3, true => .ok .subkey
  | .p1, false => .error .noStage
  | .p2, false => .error .noStage
  | .p3, false => .error .noStage
  | .plain, _ => .ok .chkmark
  | .marked, _ => .ok .chksum
  | .summed, _ => .ok .validate
  | .measured, _ => .ok .extract
  | .finished, _ => .error .noStage

/-- A plain frame: the code-map row of a valid one, by its CODE (spec/30_encoding.md R53); one that fails a check is
illegal and selects none (R55), the marker named first (spec/41_validator.md R78). -/
def decodePlain (w : BitVec 64) : Except Reject Instr :=
  let p := bytes w
  match (validate p).verdict with
  | .badMarker => .error .badMarker
  | .badChecksum => .error .badChecksum
  | .ok =>
    if codeOf p = wired.codeTemp then .ok (.measTemp (wordOf p))
    else if codeOf p = wired.codeCo2 then .ok (.measCo2 (wordOf p))
    else .ok (.measOther (codeOf p) (wordOf p))

/-- The decoder: what each encoded object selects. -/
def decode (e : Encoded) : Except Reject Instr :=
  match e with
  | .rst => .ok .reset
  | .command w => .ok (decodeCommand w)
  | .stage scr place => decodeStage scr place
  | .plain w => decodePlain w

/-- The encoder. Bits a row ignores are written 0 (spec/30_encoding.md R57; log entry 7); a stage that runs with either
SCR is written with SCR = 0. -/
def encode (i : Instr) : Encoded :=
  match i with
  | .reset => .rst
  | .nop => .command (commandWord 0 false 0)
  | .cfg flag data => .command (commandWord 1 flag data)
  | .frame data => .command (commandWord 2 false data)
  | .rsvd3 => .command (commandWord 3 false 0)
  | .bypass => .stage false .raw
  | .perm => .stage true .raw
  | .xorseed => .stage true .p1
  | .rotr3 => .stage true .p2
  | .subkey => .stage true .p3
  | .chkmark => .stage false .plain
  | .chksum => .stage false .marked
  | .validate => .stage false .summed
  | .extract => .stage false .measured
  | .measTemp word => .plain (w64 (plainFrame wired.codeTemp word))
  | .measCo2 word => .plain (w64 (plainFrame wired.codeCo2 word))
  | .measOther code word => .plain (w64 (plainFrame code word))

/-- The encoded object of a row of spec/opcode_table.json whose bits are w, by the row's width: PIN has no bits, PF has
64, CW has 67 (log entry 9). A STAGE row gives FRAME's match and mask, so its word is a FRAME command word. -/
def tableEncoded (nbits w : Nat) : Encoded :=
  if nbits ≤ 8 then .rst
  else if nbits ≤ 64 then .plain (BitVec.ofNat 64 w)
  else .command (BitVec.ofNat 67 w)

/-- The instruction the decoder reads from an opcode-table row's bits. -/
def decodeTableWord (nbits w : Nat) : Option Instr :=
  match decode (tableEncoded nbits w) with
  | .ok i => some i
  | .error _ => none

end Sys2Proof
end

