-- ==== Sys2Proof/Machine/Fetch.lean ====
section
/-! DEFINITION. What a step runs next and what it does around it: between transactions, the host's next transaction;
inside a FRAME in flight, the stage that comes next (spec/10_state.md R24). -/

namespace Sys2Proof.Machine

/-- The encoded object of one port sample: `rst` wins over a command word (spec/43_transactions.md R106), and no command
is the same as NOP (R97), whose word is 0. -/
def PortSample.encoded (x : PortSample) : Encoded :=
  if x.rst then .rst
  else match x.cmd with
    | some w => .command w
    | none => .command 0

/-- The place a FRAME in flight has reached, as it selects what comes next: after VALIDATE the plain frame's code
selects when the verdict is `ok`, and nothing is left to run when it is not. -/
def Flight.encoded (scr : Bool) (f : Flight) : Encoded :=
  match f with
  | .raw _ => .stage scr .raw
  | .p1 _ => .stage scr .p1
  | .p2 _ => .stage scr .p2
  | .p3 _ => .stage scr .p3
  | .plain _ => .stage scr .plain
  | .marked _ _ => .stage scr .marked
  | .summed _ _ _ => .stage scr .summed
  | .judged p v => if v.verdict = .ok then .plain (w64 p) else .stage scr .finished
  | .measured _ _ _ => .stage scr .measured
  | .extracted _ _ _ => .stage scr .finished

/-- What the next step runs. An empty list of inputs is an idle port: nothing is presented (spec/43_transactions.md
R97). -/
def State.fetch (s : State) : Encoded :=
  match s.flight with
  | some f => f.encoded s.scr
  | none =>
    match s.inputs with
    | x :: _ => x.encoded
    | [] => .command 0

/-- The sample a transaction consumes; a stage consumes none. -/
def State.advance (s : State) : State :=
  match s.flight with
  | some _ => s
  | none => { s with inputs := s.inputs.tail }

/-- The end of a FRAME performed stage by stage: when its last stage has run, the results are written together and the
locals are gone (spec/10_state.md R25, spec/20_memory.md R34); before that nothing is written. -/
def State.retire (s : State) : State :=
  match s.flight with
  | some (.judged p v) => if v.verdict = .ok then s else (s.endInvalid p v).setFlight none
  | some (.extracted p v x) => (s.endValid p v x).setFlight none
  | _ => s

/-- A FRAME about to be performed stage by stage: its raw frame is taken from the command word's data and no stage has
run (log entry 1). -/
def State.beginFrame (s : State) (data : BitVec 64) : State := s.setFlight (some (.raw (bytes data)))

/-- Put an encoded object where the next step fetches (log entry 9): `rst` and a command word as the host's next
sample; a plain frame as the validated frame of a FRAME in flight, which is performed only in READY. -/
def State.place (s : State) (e : Encoded) : State :=
  match e with
  | .rst => { s with flight := none, inputs := { rst := true, cmd := none } :: s.inputs.tail }
  | .command w => { s with flight := none, inputs := { rst := false, cmd := some w } :: s.inputs.tail }
  | .plain w =>
    { s with mode := .ready, flight := some (.judged (bytes w) { em := false, ec := false, verdict := .ok }) }
  | .stage _ _ => s

end Sys2Proof.Machine
end

