-- ==== Sys2Proof/Machine/Step.lean ====
section
/-! DEFINITION. One step of the machine. Between transactions it is one whole transaction (spec/43_transactions.md R95,
spec/20_memory.md R34); with a FRAME in flight it is one stage of it. -/

namespace Sys2Proof.Machine

/-- Fetch, decode, exec; after a stage, the end of the FRAME when it was the last one. -/
def step (s : State) : Host.Outcome State Fault Refusal :=
  match decode s.fetch with
  | .error why => .refused (.undecoded why)
  | .ok i =>
    match exec i s.advance with
    | .next t => .next t.retire
    | .fault r => .fault r
    | .refused r => .refused r

/-- s with an opcode-table row's bits where the next step fetches. -/
def State.withFetchWord (s : State) (nbits w : Nat) : State := s.place (tableEncoded nbits w)

end Sys2Proof.Machine
end

