-- ==== Sys2Proof/Machine/HostPort.lean ====
section
/-! DEFINITION. What the host reads: the ten output registers (spec/10_state.md R23). -/

namespace Sys2Proof.Machine

/-- The ten output registers, the ones the host can read (spec/10_state.md R11, R23). SEED and SCR are not among
them (R13, R14). -/
inductive OutReg where
  | mode
  | fcause
  | plain
  | errMarker
  | errChecksum
  | kind
  | code
  | word
  | tempE4
  | co2Ppm
deriving DecidableEq, Repr

/-- All ten. -/
def OutReg.all : List OutReg :=
  [.mode, .fcause, .plain, .errMarker, .errChecksum, .kind, .code, .word, .tempE4, .co2Ppm]

/-- The width of an output register in bits (spec/10_state.md R11). -/
abbrev OutReg.width (r : OutReg) : Nat :=
  match r with
  | .mode => 2
  | .fcause => 3
  | .plain => 64
  | .errMarker => 1
  | .errChecksum => 1
  | .kind => 2
  | .code => 8
  | .word => 16
  | .tempE4 => 32
  | .co2Ppm => 16

/-- A register read: it returns the register's value; it gives no next state, because a read changes nothing
(spec/10_state.md R23, spec/20_memory.md R35). PLAIN is read as its 64-bit packing (spec/20_memory.md R32). -/
def State.readOutput (s : State) (r : OutReg) : BitVec r.width :=
  match r with
  | .mode => s.mode.bits
  | .fcause => s.fcause.bits
  | .plain => w64 s.plain
  | .errMarker => BitVec.ofBool s.errMarker
  | .errChecksum => BitVec.ofBool s.errChecksum
  | .kind => s.kind.bits
  | .code => s.code
  | .word => s.word
  | .tempE4 => s.tempE4
  | .co2Ppm => s.co2Ppm

/-- A read through a bus under the address map `regMap`, the spec's open parameter REG_MAP (spec/20_memory.md R36):
the register that the map puts at the address, with its value; `none` where the map puts none. -/
def State.readAt (regMap : OutReg → Nat) (address : Nat) (s : State) : Option (Σ r : OutReg, BitVec r.width) :=
  (OutReg.all.find? fun r => regMap r == address).map fun r => ⟨r, s.readOutput r⟩

/-- The 210 bits of the twelve registers add up (spec/10_state.md R11): the ten the host reads, SEED and SCR. -/
def registerBits : Nat := (OutReg.all.map OutReg.width).sum + 64 + 1

end Sys2Proof.Machine
end

