-- ==== Sys2Proof/Safety.lean ====
section
/-! DEFINITION. What the statements speak of: a good state, the invariants of the reachable states
(spec/43_transactions.md R107), and the groups of registers the spec names. -/

namespace Sys2Proof.Machine

/-- A state is good when the block is not FAULTED (spec/70_reset_and_hazards.md R132, spec/60_exceptions.md R115). -/
abbrev State.good (s : State) : Prop := s.mode ≠ .faulted

/-- Between transactions: no FRAME is in flight. -/
abbrev State.idle (s : State) : Prop := s.flight = none

/-- The all-zero frame. -/
def zeroFrame : Frame := Eight.fill 0

/-- The five extractor registers KIND, CODE, WORD, TEMP_E4 and CO2_PPM. -/
def State.extractor (s : State) : Extracted :=
  { kind := s.kind, code := s.code, word := s.word, tempE4 := s.tempE4, co2Ppm := s.co2Ppm }

/-- Every register other than MODE and FCAUSE is 0 (R107, I3 and I6). -/
abbrev State.allZero (s : State) : Prop :=
  s.seed = zeroFrame ∧ s.scr = false ∧ s.plain = zeroFrame ∧ s.errMarker = false ∧ s.errChecksum = false ∧
    s.extractor = Extracted.cleared

/-- The conditions of I4 on the registers other than MODE and FCAUSE (R107): no frame yet, or the results of a valid
one. -/
abbrev State.showsNoFrameOrValidFrame (s : State) : Prop :=
  s.errMarker = false ∧ s.errChecksum = false ∧ (s.plain = zeroFrame ∨ (validate s.plain).verdict = .ok) ∧
    s.extractor = extract wired s.plain

/-- The conditions of I5: the results of a frame that failed validation (R107). -/
abbrev State.showsInvalidFrame (s : State) : Prop :=
  s.errMarker = (validate s.plain).em ∧ s.errChecksum = (validate s.plain).ec ∧
    (s.errMarker = true ∨ s.errChecksum = true) ∧ (s.fcause = .badMarker ↔ s.errMarker = true) ∧
    s.extractor = Extracted.cleared

/-- I9: what KIND says of the other extractor registers (R107). -/
abbrev State.kindAgrees (s : State) : Prop :=
  (s.kind = .temp → s.code = 0x42 ∧ s.tempE4.toInt = (s.word.toNat : Int) * 625 - 2731500 ∧ s.co2Ppm = 0) ∧
  (s.kind = .co2 → s.code = 0x50 ∧ s.word.toNat ≤ 3000 ∧ s.co2Ppm = s.word ∧ s.tempE4 = 0) ∧
  (s.kind = .none → s.tempE4 = 0 ∧ s.co2Ppm = 0)

/-- The locals of a FRAME in flight are what the stages before them made of the plain frame, and a stage is left to
run (the model's own, log entry 1; R24, R25). -/
def Flight.consistent (f : Flight) : Bool :=
  match f with
  | .raw _ => true
  | .p1 _ => true
  | .p2 _ => true
  | .p3 _ => true
  | .plain _ => true
  | .marked p em => em == chkmark p
  | .summed p em ec => em == chkmark p && ec == chksum p
  | .judged p v => v == validate p && v.verdict == .ok
  | .measured p v m => v == validate p && v.verdict == .ok && m == measureCode wired (codeOf p) (wordOf p)
  | .extracted _ _ _ => false

/-- The invariants I2 to I9 of spec/43_transactions.md R107, and that a FRAME is in flight only in READY and is
consistent. I1 is the types of MODE, KIND and FCAUSE (log entry 6). -/
abbrev State.Inv (s : State) : Prop :=
  (s.fcause = .none ↔ s.mode ≠ .faulted) ∧
  (s.mode = .unconf → s.allZero) ∧
  (s.mode = .ready → s.showsNoFrameOrValidFrame) ∧
  (s.fcause = .badMarker ∨ s.fcause = .badChecksum → s.showsInvalidFrame) ∧
  (s.fcause = .notConfigured → s.allZero) ∧
  (s.fcause = .cfgLocked → s.showsNoFrameOrValidFrame) ∧
  (s.fcause = .illegalOp → s.allZero ∨ s.showsNoFrameOrValidFrame) ∧
  s.kindAgrees ∧
  (s.flight.all fun f => s.mode == .ready && f.consistent) = true

/-- The registers of two states are the same: the twelve of spec/10_state.md R11. -/
abbrev State.sameRegisters (s t : State) : Prop :=
  t.mode = s.mode ∧ t.seed = s.seed ∧ t.scr = s.scr ∧ t.fcause = s.fcause ∧ t.plain = s.plain ∧
    t.errMarker = s.errMarker ∧ t.errChecksum = s.errChecksum ∧ t.extractor = s.extractor

/-- The host sees no difference: the ten output registers and the last outcome are the same
(spec/10_state.md R23). -/
def State.sameToHost (s t : State) : Prop := (∀ r, t.readOutput r = s.readOutput r) ∧ t.outcome = s.outcome

end Sys2Proof.Machine

namespace Sys2Proof

/-- The rows of the table that are no transaction: the stages and the code-map entries (spec/30_encoding.md R58). -/
def Instr.isStage (i : Instr) : Bool :=
  match i with
  | .reset => false
  | .nop => false
  | .cfg _ _ => false
  | .frame _ => false
  | .rsvd3 => false
  | .bypass => true
  | .perm => true
  | .xorseed => true
  | .rotr3 => true
  | .subkey => true
  | .chkmark => true
  | .chksum => true
  | .validate => true
  | .extract => true
  | .measTemp _ => true
  | .measCo2 _ => true
  | .measOther _ _ => true

end Sys2Proof
end

