-- ==== Sys2Proof/Certificates/Slice0/Obligations.lean ====
section
/-! DEFINITION. The statements for the provers. They speak of `exec` and `step` over every state; the rules they formalise
are named in their docstrings. -/

open Sys2Proof Sys2Proof.Machine

/-! ## The transactions -/

/-- R27, R96: the reset state is the table's, and RESET puts every register there from any mode; what the host has still
to present stays. -/
def Obligations.ResetPutsEveryRegisterAtItsResetValue : Prop :=
  (State.reset.mode = .unconf ∧ State.reset.fcause = .none ∧ State.reset.allZero) ∧
  ∀ s : State, s.idle → ∃ t, exec .reset s = .next t ∧ t.mode = .unconf ∧ t.fcause = .none ∧ t.allZero ∧
    t.outcome = some .done ∧ t.idle ∧ t.inputs = s.inputs

/-- R97: NOP in UNCONF and READY changes no register, in FAULTED it is ignored, and the absence of a command is the same as
NOP. -/
def Obligations.NopLeavesEveryRegisterUnchanged : Prop :=
  (∀ s : State, s.idle →
    (s.good → exec .nop s = .next { s with outcome := some .done }) ∧
    (s.mode = .faulted → exec .nop s = .next { s with outcome := some .ignored })) ∧
  ∀ (s : State) (flag : Bool) (data : BitVec 64) (rest : List PortSample), s.idle →
    step { s with inputs := { rst := false, cmd := none } :: rest } =
      step { s with inputs := { rst := false, cmd := some (commandWord 0 flag data) } :: rest }

/-- R98: CFG in UNCONF loads SEED (byte 0 = data[63:56]) and SCR and enters READY; no other register changes. -/
def Obligations.CfgInUnconfLoadsSeedAndVariant : Prop :=
  ∀ (s : State) (flag : Bool) (data : BitVec 64), s.idle → s.mode = .unconf →
    ∃ seed : Frame, exec (.cfg flag data) s =
        .next { s with seed := seed, scr := flag, mode := .ready, outcome := some .done } ∧
      ∀ i : Fin 8, seed.get i = data.extractLsb' (56 - 8 * i.val) 8

/-- R99: CFG in READY faults CFG_LOCKED and changes no other register. -/
def Obligations.CfgInReadyFaultsCfgLocked : Prop :=
  ∀ (s : State) (flag : Bool) (data : BitVec 64), s.idle → s.mode = .ready →
    exec (.cfg flag data) s =
      .next { s with mode := .faulted, fcause := .cfgLocked, outcome := some (.fault .cfgLocked) }

/-- R101: FRAME in UNCONF faults NOT_CONFIGURED; the frame is not decoded. -/
def Obligations.FrameInUnconfFaultsNotConfigured : Prop :=
  ∀ (s : State) (data : BitVec 64), s.idle → s.mode = .unconf →
    exec (.frame data) s =
      .next { s with mode := .faulted, fcause := .notConfigured, outcome := some (.fault .notConfigured) }

/-- R102: RSVD3 in UNCONF and READY faults ILLEGAL_OP and changes no other register. -/
def Obligations.ReservedOpFaultsIllegalOp : Prop :=
  ∀ s : State, s.idle → s.good →
    exec .rsvd3 s =
      .next { s with mode := .faulted, fcause := .illegalOp, outcome := some (.fault .illegalOp) }

/-- R103: in FAULTED every command is ignored: all twelve registers stay, FCAUSE keeps the first cause. -/
def Obligations.FaultedIgnoresEveryCommand : Prop :=
  ∀ (s : State) (flag : Bool) (data : BitVec 64), s.idle → s.mode = .faulted →
    exec .nop s = .next { s with outcome := some .ignored } ∧
    exec (.cfg flag data) s = .next { s with outcome := some .ignored } ∧
    exec (.frame data) s = .next { s with outcome := some .ignored } ∧
    exec .rsvd3 s = .next { s with outcome := some .ignored }

/-- R100: FRAME in READY runs DECODE, VALIDATE and, on verdict `ok`, EXTRACT; all eight result registers are written; an
invalid frame faults. -/
def Obligations.FrameInReadyRunsDecodeValidateExtract : Prop :=
  ∀ (s : State) (data : BitVec 64), s.idle → s.mode = .ready →
    ∃ (p : Frame) (v : Validation) (x : Extracted) (c : Cause),
      p = decodeFrame wired (bytes data) s.seed s.scr ∧ v = validate p ∧ x = extract wired p ∧
      c = (if v.verdict = .badMarker then .badMarker else .badChecksum) ∧
      exec (.frame data) s = .next
        (if v.verdict = .ok then
          { s with plain := p, errMarker := v.em, errChecksum := v.ec, kind := x.kind, code := x.code, word := x.word,
                   tempE4 := x.tempE4, co2Ppm := x.co2Ppm, outcome := some .done }
        else
          { s with plain := p, errMarker := v.em, errChecksum := v.ec, kind := .none, code := 0, word := 0, tempE4 := 0,
                   co2Ppm := 0, mode := .faulted, fcause := c, outcome := some (.fault c) })

/-- R100, with R60, R75 to R77, R85 to R90 for the values it stores: FRAME in READY, when the decoded frame passes both
checks. -/
def Obligations.ValidFrameInReadyReportsItsMeasurement : Prop :=
  ∀ (s : State) (data : BitVec 64) (p : Frame), s.idle → s.mode = .ready →
    p = decodeFrame wired (bytes data) s.seed s.scr →
    p.b4 = 0x0D → (p.b0.toNat + p.b1.toNat + p.b2.toNat) % 256 = p.b3.toNat →
    ∃ t, exec (.frame data) s = .next t ∧
      t = { s with plain := p, errMarker := false, errChecksum := false, kind := t.kind, code := p.b0, word := t.word,
                   tempE4 := t.tempE4, co2Ppm := t.co2Ppm, outcome := some .done } ∧
      t.word.toNat = 256 * p.b1.toNat + p.b2.toNat ∧
      (if p.b0 = 0x42 then
          t.kind = .temp ∧ t.tempE4.toInt = (t.word.toNat : Int) * 625 - 2731500 ∧ t.co2Ppm = 0
        else if p.b0 = 0x50 ∧ t.word.toNat ≤ 3000 then t.kind = .co2 ∧ t.tempE4 = 0 ∧ t.co2Ppm = t.word
        else t.kind = .none ∧ t.tempE4 = 0 ∧ t.co2Ppm = 0)

/-- R100, with R78, R110 and R116: FRAME in READY, when the decoded frame fails a check: both flags, marker first, the
extractor's registers cleared, FAULTED. -/
def Obligations.InvalidFrameInReadyFaults : Prop :=
  ∀ (s : State) (data : BitVec 64) (p : Frame), s.idle → s.mode = .ready →
    p = decodeFrame wired (bytes data) s.seed s.scr →
    ¬(p.b4 = 0x0D ∧ (p.b0.toNat + p.b1.toNat + p.b2.toNat) % 256 = p.b3.toNat) →
    ∃ c : Cause, c = (if p.b4 = 0x0D then .badChecksum else .badMarker) ∧
      exec (.frame data) s =
        .next { s with mode := .faulted, fcause := c, plain := p,
                       errMarker := decide (p.b4 ≠ 0x0D),
                       errChecksum := decide ((p.b0.toNat + p.b1.toNat + p.b2.toNat) % 256 ≠ p.b3.toNat),
                       kind := .none, code := 0, word := 0, tempE4 := 0, co2Ppm := 0,
                       outcome := some (.fault c) }

/-- R60, R61: with SCR = 0 the plain frame is the raw frame, whatever the seed. -/
def Obligations.PassThroughFrameIsTheRawFrame : Prop :=
  ∀ (s : State) (data : BitVec 64), s.idle → s.mode = .ready → s.scr = false →
    ∃ t, exec (.frame data) s = .next t ∧ t.readOutput .plain = data

/-- R66: with SCR = 1 every byte of PLAIN follows the closed form over two raw bytes, two seed bytes and one key
byte. -/
def Obligations.DescrambledFrameFollowsTheClosedForm : Prop :=
  ∀ (s : State) (data : BitVec 64), s.idle → s.mode = .ready → s.scr = true →
    ∃ t, exec (.frame data) s = .next t ∧ ∀ i j : Fin 8, j.val = (i.val + 7) % 8 →
      t.plain.get i =
        ((((bytes data).get (wired.perm.get i) ^^^ s.seed.get i) >>> 3) |||
          (((bytes data).get (wired.perm.get j) ^^^ s.seed.get j) <<< 5)) -
        (⟨0x84, 0x47, 0x56, 0xD6, 0x07, 0x93, 0x93, 0x56⟩ : Frame).get i

/-- R111: a CO2 word above 3000 and an unrecognised code are discards, no faults. -/
def Obligations.DiscardedFrameIsNoFault : Prop :=
  ∀ (s : State) (data : BitVec 64) (p : Frame), s.idle → s.mode = .ready → s.fcause = .none →
    p = decodeFrame wired (bytes data) s.seed s.scr → (validate p).verdict = .ok →
    p.b0 ≠ 0x42 → (p.b0 = 0x50 → 3000 < 256 * p.b1.toNat + p.b2.toNat) →
    ∃ t, exec (.frame data) s = .next t ∧ t.outcome = some .done ∧ t.mode = .ready ∧ t.fcause = .none ∧
      t.errMarker = false ∧ t.errChecksum = false ∧ t.kind = .none ∧ t.code = p.b0 ∧
      t.word.toNat = 256 * p.b1.toNat + p.b2.toNat

/-! ## The descrambler stages

The statements of this section and of the next two speak of FRAME's locals in flight, one stage a step: the model's own
form (log entry 1). What each stage computes is the rule's. -/

/-- R61: BYPASS with a raw frame in flight and SCR = 0. -/
def Obligations.BypassStagePassesTheFrame : Prop :=
  ∀ (s : State) (b : Frame), s.mode = .ready → s.scr = false → s.flight = some (.raw b) →
    exec .bypass s = .next { s with flight := some (.plain b) }

/-- R62: PERM with a raw frame in flight and SCR = 1, byte by byte, and PERM is an involution. -/
def Obligations.PermStageMovesWholeBytes : Prop :=
  (∀ (s : State) (r : Frame), s.mode = .ready → s.scr = true → s.flight = some (.raw r) →
    exec .perm s = .next { s with flight := some (.p1 ⟨r.b2, r.b4, r.b0, r.b7, r.b1, r.b6, r.b5, r.b3⟩) }) ∧
  ∀ r : Frame, permStage wired (permStage wired r) = r

/-- R63: XORSEED with P1 in flight and SCR = 1: byte i with byte i of SEED; twice with one seed restores. -/
def Obligations.XorStageMeetsTheSeedByteByByte : Prop :=
  ∀ (s : State) (b : Frame), s.mode = .ready → s.scr = true → s.flight = some (.p1 b) →
    ∃ q : Frame, exec .xorseed s = .next { s with flight := some (.p2 q) } ∧
      (∀ i : Fin 8, q.get i = b.get i ^^^ s.seed.get i) ∧ xorStage q s.seed = b

/-- R64: ROTR3 with P2 in flight and SCR = 1: the right rotation of the big-endian word by 3, and the byte-by-byte form
of the same function. -/
def Obligations.RotStageRotatesTheWordRightByThree : Prop :=
  ∀ (s : State) (b : Frame), s.mode = .ready → s.scr = true → s.flight = some (.p2 b) →
    ∃ q : Frame, exec .rotr3 s = .next { s with flight := some (.p3 q) } ∧
      w64 q = (w64 b).rotateRight 3 ∧
      ∀ i j : Fin 8, j.val = (i.val + 7) % 8 → q.get i = (b.get i >>> 3) ||| (b.get j <<< 5)

/-- R65, with the key of R49: SUBKEY with P3 in flight and SCR = 1: each byte minus its key byte modulo 256. -/
def Obligations.SubStageSubtractsTheKeyBytewise : Prop :=
  ∀ (s : State) (b : Frame), s.mode = .ready → s.scr = true → s.flight = some (.p3 b) →
    ∃ q : Frame, exec .subkey s = .next { s with flight := some (.plain q) } ∧
      ∀ i : Fin 8, ((q.get i).toNat : Int) =
        ((b.get i).toNat - ((⟨0x84, 0x47, 0x56, 0xD6, 0x07, 0x93, 0x93, 0x56⟩ : Frame).get i).toNat : Int) % 256

/-! ## The validator stages -/

/-- R76: CHKMARK with a plain frame in flight. -/
def Obligations.MarkerStageComparesByteFour : Prop :=
  ∀ (s : State) (p : Frame), s.mode = .ready → s.flight = some (.plain p) →
    exec .chkmark s = .next { s with flight := some (.marked p (decide (p.b4 ≠ 0x0D))) }

/-- R77: CHKSUM with a marked frame in flight, whatever the marker check found. -/
def Obligations.ChecksumStageComparesTheSumModulo256 : Prop :=
  ∀ (s : State) (p : Frame) (em : Bool), s.mode = .ready → s.flight = some (.marked p em) →
    exec .chksum s =
      .next { s with flight := some (.summed p em
        (decide ((p.b0.toNat + p.b1.toNat + p.b2.toNat) % 256 ≠ p.b3.toNat))) }

/-- R75, R78: VALIDATE: the pair of checks and the verdict of the four cases, marker first; from the plain frame it
runs both checks itself and gives the same. -/
def Obligations.ValidateStageGivesTheVerdictMarkerFirst : Prop :=
  (∀ (s : State) (p : Frame) (em ec : Bool), s.mode = .ready → s.flight = some (.summed p em ec) →
    ∃ v : Verdict, exec .validate s =
        .next { s with flight := some (.judged p { em := em, ec := ec, verdict := v }) } ∧
      (em = false → ec = false → v = .ok) ∧ (em = true → ec = false → v = .badMarker) ∧
      (em = false → ec = true → v = .badChecksum) ∧ (em = true → ec = true → v = .badMarker)) ∧
  (∀ (s : State) (p : Frame), s.mode = .ready → s.flight = some (.plain p) →
    exec .validate s =
      exec .validate { s with flight := some (.summed p (decide (p.b4 ≠ 0x0D))
        (decide ((p.b0.toNat + p.b1.toNat + p.b2.toNat) % 256 ≠ p.b3.toNat))) })

/-- R79: the verdict is `ok` exactly when byte 4 is the marker and the sum matches; for each choice of the six free bytes
exactly one choice of bytes 3 and 4 is valid; 2^48 frames are valid. -/
def Obligations.ValidityFixesExactlyBytesThreeAndFour : Prop :=
  (∀ p : Frame, (validate p).verdict = .ok ↔
    p.b4 = 0x0D ∧ (p.b0.toNat + p.b1.toNat + p.b2.toNat) % 256 = p.b3.toNat) ∧
  (∀ b0 b1 b2 b5 b6 b7 : Byte,
    ∃! q : Byte × Byte, (validate ⟨b0, b1, b2, q.1, q.2, b5, b6, b7⟩).verdict = .ok) ∧
  Nat.card { p : Frame // (validate p).verdict = .ok } = 2 ^ 48

/-! ## The extractor stages -/

/-- R87, R89: MEAS.TEMP with a valid frame in flight: every word yields the exact number, which is word/16 - 5463/20 degrees
Celsius. -/
def Obligations.TempRowConvertsEveryWordExactly : Prop :=
  ∀ (s : State) (p : Frame) (v : Validation) (word : RawWord), s.mode = .ready → v.verdict = .ok →
    s.flight = some (.judged p v) →
    ∃ t : BitVec 32, exec (.measTemp word) s =
        .next { s with flight := some (.measured p v { kind := .temp, tempE4 := t, co2Ppm := 0 }) } ∧
      t.toInt = (word.toNat : Int) * 625 - 2731500 ∧ (t.toInt : ℚ) / 10000 = (word.toNat : ℚ) / 16 - 5463 / 20

/-- R88: MEAS.CO2 with a valid frame in flight: 3000 is accepted, 3001 is discarded. -/
def Obligations.Co2RowAcceptsUpToThreeThousand : Prop :=
  ∀ (s : State) (p : Frame) (v : Validation) (word : RawWord), s.mode = .ready → v.verdict = .ok →
    s.flight = some (.judged p v) →
    ∃ m : Measurement, exec (.measCo2 word) s = .next { s with flight := some (.measured p v m) } ∧
      (word.toNat ≤ 3000 → m = { kind := .co2, tempE4 := 0, co2Ppm := word }) ∧
      (3000 < word.toNat → m = { kind := .none, tempE4 := 0, co2Ppm := 0 })

/-- R90: MEAS.OTHER with a valid frame in flight yields nothing. -/
def Obligations.OtherRowYieldsNoMeasurement : Prop :=
  ∀ (s : State) (p : Frame) (v : Validation) (code : Byte) (word : RawWord), s.mode = .ready → v.verdict = .ok →
    s.flight = some (.judged p v) →
    exec (.measOther code word) s =
      .next { s with flight := some (.measured p v { kind := .none, tempE4 := 0, co2Ppm := 0 }) }

/-- R85, R86, R92: EXTRACT with a valid frame in flight: its code, its word, and the measurement its code map row gives;
after a code map row has run it keeps that row's measurement. -/
def Obligations.ExtractStageReportsCodeWordAndMeasurement : Prop :=
  (∀ (s : State) (p : Frame) (v : Validation), s.mode = .ready → v.verdict = .ok → s.flight = some (.judged p v) →
    ∃ x : Extracted, exec .extract s = .next { s with flight := some (.extracted p v x) } ∧
      x.code = p.b0 ∧ x.word.toNat = 256 * p.b1.toNat + p.b2.toNat ∧
      (if p.b0 = 0x42 then
          x.kind = .temp ∧ x.tempE4.toInt = (x.word.toNat : Int) * 625 - 2731500 ∧ x.co2Ppm = 0
        else if p.b0 = 0x50 ∧ x.word.toNat ≤ 3000 then x.kind = .co2 ∧ x.tempE4 = 0 ∧ x.co2Ppm = x.word
        else x.kind = .none ∧ x.tempE4 = 0 ∧ x.co2Ppm = 0)) ∧
  (∀ (s : State) (p : Frame) (v : Validation) (m : Measurement), s.mode = .ready →
    s.flight = some (.measured p v m) →
    ∃ x : Extracted, exec .extract s = .next { s with flight := some (.extracted p v x) } ∧
      x.code = p.b0 ∧ x.word.toNat = 256 * p.b1.toNat + p.b2.toNat ∧
      x.kind = m.kind ∧ x.tempE4 = m.tempE4 ∧ x.co2Ppm = m.co2Ppm)

/-! ## Frames -/

/-- The frame of every stage and code map row: it writes no register, consumes no input and returns no outcome
(R80; log entry 1). -/
def Obligations.StageRowsWriteNoRegister : Prop :=
  ∀ (i : Instr) (s t : State), i.isStage = true → exec i s = .next t → t = { s with flight := t.flight }

/-- The frame of the transactions (R23): NOP and RSVD3 write no configuration and no result register, CFG writes no
result register, FRAME writes no configuration register; none but RESET and fault entry writes FCAUSE; none but RESET, CFG
in UNCONF and fault entry writes MODE; none touches the inputs or leaves a FRAME in flight. -/
def Obligations.TransactionsWriteOnlyTheirRegisters : Prop :=
  ∀ (i : Instr) (s t : State), i.isStage = false → exec i s = .next t →
    t.inputs = s.inputs ∧ t.idle ∧ s.idle ∧
    (i ≠ .reset →
      ((∀ flag data, i ≠ .cfg flag data) → t.seed = s.seed ∧ t.scr = s.scr) ∧
      ((∀ data, i ≠ .frame data) →
        t.plain = s.plain ∧ t.errMarker = s.errMarker ∧ t.errChecksum = s.errChecksum ∧ t.extractor = s.extractor) ∧
      (t.outcome = some .done ∨ t.outcome = some .ignored → t.fcause = s.fcause) ∧
      ((∀ c, t.outcome ≠ some (.fault c)) → (∀ flag data, i = .cfg flag data → s.mode ≠ .unconf) → t.mode = s.mode) ∧
      (t.outcome = some .ignored → s.sameRegisters t))

/-! ## Faults and stops -/

/-- R114, R116: a transaction that returns `fault(cause)` was performed out of UNCONF or READY and leaves FAULTED with
that cause; only the four conditions raise one, each with its cause. -/
def Obligations.FaultEntryRecordsModeAndCause : Prop :=
  ∀ (i : Instr) (s t : State) (c : Cause), i.isStage = false → exec i s = .next t → t.outcome = some (.fault c) →
    s.good ∧ t.mode = .faulted ∧ t.fcause = c ∧
    ((i = .rsvd3 ∧ c = .illegalOp) ∨
      (∃ flag data, i = .cfg flag data ∧ s.mode = .ready ∧ c = .cfgLocked) ∨
      (∃ data, i = .frame data ∧ s.mode = .unconf ∧ c = .notConfigured) ∨
      (∃ data, i = .frame data ∧ s.mode = .ready ∧ c = .badMarker ∧ t.errMarker = true) ∨
      (∃ data, i = .frame data ∧ s.mode = .ready ∧ c = .badChecksum ∧ t.errMarker = false ∧ t.errChecksum = true))

/-- R115, R117: from a faulted state, as long as no sample asserts `rst`, every step of any sequence the host chooses
leaves all twelve registers as they are. -/
def Obligations.FaultIsStickyUntilReset : Prop :=
  ∀ (n : Nat) (s : State), s.idle → s.mode = .faulted → (∀ x ∈ s.inputs, x.rst = false) →
    ∃ t : State, Host.Core.run core n s = .next t ∧ s.sameRegisters t ∧ t.idle ∧ t.inputs = s.inputs.drop n ∧
      (0 < n → t.outcome = some .ignored)

/-- R57: no stage or code map row runs outside a FRAME in flight (the model refuses it by name, log entry 5), and none
runs outside READY. -/
def Obligations.StageRowsStopOutsideAFrame : Prop :=
  ∀ (i : Instr) (s : State), i.isStage = true → (s.idle ∨ s.mode ≠ .ready) →
    exec i s = .refused .stageNotSelected

/-- No transaction begins while a FRAME is in flight (the model's stop of log entry 4, from U16 of
spec/93_implementation_defined.md). -/
def Obligations.OverlappingTransactionStops : Prop :=
  ∀ (i : Instr) (s : State) (f : Flight), i.isStage = false → s.flight = some f →
    exec i s = .fault .overlappingTransaction

/-! ## Steps, decoding, the port -/

/-- A step runs the decoded instruction: the fetched object's instruction on the state whose next sample is consumed
(between transactions) or on the state itself (with a FRAME in flight), then the end of the FRAME if its last stage has
run; what it fetches is the host's next sample, NOP on an idle port. -/
def Obligations.StepRunsTheDecodedInstruction : Prop :=
  (∀ (s : State) (i : Instr), decode s.fetch = .ok i →
    step s = match exec i s.advance with
      | .next t => .next t.retire
      | .fault r => .fault r
      | .refused r => .refused r) ∧
  (∀ (s : State) (x : PortSample) (rest : List PortSample), s.idle → s.inputs = x :: rest →
    s.fetch = x.encoded ∧ s.advance = { s with inputs := rest }) ∧
  (∀ s : State, s.idle → s.inputs = [] → s.fetch = .command 0 ∧ s.advance = s) ∧
  (∀ (s : State) (f : Flight), s.flight = some f → s.fetch = f.encoded s.scr ∧ s.advance = s) ∧
  (∀ s : State, s.idle → s.retire = s)

/-- Words written out from the spec's table of command words (spec/95_test_vectors.md section 2.8), a plain frame and
stage places decode to what they stand for (R51, R53, R58). -/
def Obligations.SampleEncodingsDecodeAsTheSpecSays : Prop :=
  decode .rst = .ok .reset ∧
  decode (.command 0x00000000000000000) = .ok .nop ∧
  decode (.command 0x30123456789ABCDEF) = .ok (.cfg true 0x0123456789ABCDEF) ∧
  decode (.command 0x5421000520D000000) = .ok (.frame 0x421000520D000000) ∧
  decode (.command 0x60000000000000000) = .ok .rsvd3 ∧
  decode (.stage true .raw) = .ok .perm ∧
  decode (.stage false .raw) = .ok .bypass ∧
  decode (.plain 0x421000520D000000) = .ok (.measTemp 0x1000) ∧
  decode (.plain 0x500190E10D000000) = .ok (.measCo2 0x0190) ∧
  decode (.plain 0x410064A50D000000) = .ok (.measOther 0x41 0x0064) ∧
  decode (.plain 0x4210005200000000) = .error .badMarker ∧
  decode (.plain 0x421001520D000000) = .error .badChecksum

/-- R50, R51, and R46, R53 for plain frames: what every command word and every valid plain frame decodes to, field by
field. -/
def Obligations.DecodingFollowsTheTables : Prop :=
  (∀ w : CommandWord,
    (w.extractLsb' 65 2 = 0 → decode (.command w) = .ok .nop) ∧
    (w.extractLsb' 65 2 = 1 → decode (.command w) = .ok (.cfg (w.getLsbD 64) (w.extractLsb' 0 64))) ∧
    (w.extractLsb' 65 2 = 2 → decode (.command w) = .ok (.frame (w.extractLsb' 0 64))) ∧
    (w.extractLsb' 65 2 = 3 → decode (.command w) = .ok .rsvd3)) ∧
  ∀ w : BitVec 64, w.extractLsb' 24 8 = 0x0D →
    ((w.extractLsb' 56 8).toNat + (w.extractLsb' 48 8).toNat + (w.extractLsb' 40 8).toNat) % 256 =
      (w.extractLsb' 32 8).toNat →
    decode (.plain w) = .ok
      (if w.extractLsb' 56 8 = 0x42 then .measTemp (w.extractLsb' 40 16)
       else if w.extractLsb' 56 8 = 0x50 then .measCo2 (w.extractLsb' 40 16)
       else .measOther (w.extractLsb' 56 8) (w.extractLsb' 40 16))

/-- Decode and encode agree for every well-formed instruction. -/
def Obligations.DecodeInvertsEncode : Prop :=
  ∀ i : Instr, i.wellFormed = true → decode (encode i) = .ok i

/-- The other direction: what decodes is well-formed, and encoding it again gives the same bits but for those the row
ignores (R46, R50, R105). -/
def Obligations.EncodeInvertsDecodeUpToIgnoredBits : Prop :=
  (∀ (e : Encoded) (i : Instr), decode e = .ok i → i.wellFormed = true) ∧
  (∀ (w : CommandWord) (flag : Bool) (data : BitVec 64), decode (.command w) = .ok (.cfg flag data) →
    encode (.cfg flag data) = .command w) ∧
  (∀ (w : CommandWord) (data : BitVec 64), decode (.command w) = .ok (.frame data) →
    encode (.frame data) = .command (w &&& 0x4FFFFFFFFFFFFFFFF)) ∧
  (∀ w : CommandWord, decode (.command w) = .ok .nop → encode .nop = .command (w &&& 0x60000000000000000)) ∧
  (∀ w : CommandWord, decode (.command w) = .ok .rsvd3 → encode .rsvd3 = .command (w &&& 0x60000000000000000)) ∧
  (∀ (w : BitVec 64) (i : Instr), decode (.plain w) = .ok i → encode i = .plain (w &&& 0xFFFFFFFFFF000000))

/-- R105: the bits a command does not use change neither the next state nor the outcome: the flag of FRAME, flag and data
of NOP and RSVD3, every operand bit in FAULTED, of CFG in READY and of FRAME in UNCONF. -/
def Obligations.UnusedOperandBitsChangeNothing : Prop :=
  ∀ (s : State) (op : BitVec 2) (flag flag' : Bool) (data data' : BitVec 64) (rest : List PortSample), s.idle →
    (op = 0 ∨ op = 3 ∨ (op = 2 ∧ data' = data) ∨ s.mode = .faulted ∨ (op = 1 ∧ s.mode = .ready) ∨
      (op = 2 ∧ s.mode = .unconf)) →
    step { s with inputs := { rst := false, cmd := some (commandWord op flag data) } :: rest } =
      step { s with inputs := { rst := false, cmd := some (commandWord op flag' data') } :: rest }

/-- R106: a command word presented with `rst` is dropped: the transaction is RESET, from any mode. -/
def Obligations.ResetInputWinsOverACommand : Prop :=
  ∀ (s : State) (cmd : Option CommandWord) (rest : List PortSample), s.idle →
    step { s with inputs := { rst := true, cmd := cmd } :: rest } =
      .next { State.reset with inputs := rest, outcome := some .done }

/-- The model's own idle port (log entry 2): with nothing left to present, a step is a NOP and the machine goes on. -/
def Obligations.IdlePortRunsNop : Prop :=
  ∀ s : State, s.idle → s.inputs = [] →
    (s.good → step s = .next { s with outcome := some .done }) ∧
    (s.mode = .faulted → step s = .next { s with outcome := some .ignored })

/-- R95, R37: the block performs every transaction, whatever the host presents and in every mode: one step, one sample
consumed, one outcome, nothing in flight. -/
def Obligations.EveryTransactionEndsInOneStep : Prop :=
  ∀ s : State, s.idle → ∃ t, step s = .next t ∧ t.idle ∧ t.inputs = s.inputs.tail ∧ t.outcome ≠ none

/-- R104: the mode table, mode after and outcome, for every cell; `valid` is the verdict on the frame the configured
block decodes. -/
def Obligations.ModeMovesAsTheTableSays : Prop :=
  ∀ (s t : State) (i : Instr), s.idle → i.isStage = false → exec i s = .next t →
    (i = .reset → t.mode = .unconf ∧ t.outcome = some .done) ∧
    (s.mode = .faulted → i ≠ .reset → t.mode = .faulted ∧ t.outcome = some .ignored) ∧
    (s.mode ≠ .faulted → i = .nop → t.mode = s.mode ∧ t.outcome = some .done) ∧
    (s.mode ≠ .faulted → i = .rsvd3 → t.mode = .faulted ∧ t.outcome = some (.fault .illegalOp)) ∧
    (∀ flag data, i = .cfg flag data → s.mode = .unconf → t.mode = .ready ∧ t.outcome = some .done) ∧
    (∀ flag data, i = .cfg flag data → s.mode = .ready →
      t.mode = .faulted ∧ t.outcome = some (.fault .cfgLocked)) ∧
    (∀ data, i = .frame data → s.mode = .unconf → t.mode = .faulted ∧ t.outcome = some (.fault .notConfigured)) ∧
    (∀ data, i = .frame data → s.mode = .ready →
      (t.mode = .ready ∧ t.outcome = some .done ∧
        (validate (decodeFrame wired (bytes data) s.seed s.scr)).verdict = .ok) ∨
      (t.mode = .faulted ∧ t.outcome = some (.fault .badMarker) ∧
        (validate (decodeFrame wired (bytes data) s.seed s.scr)).verdict = .badMarker) ∨
      (t.mode = .faulted ∧ t.outcome = some (.fault .badChecksum) ∧
        (validate (decodeFrame wired (bytes data) s.seed s.scr)).verdict = .badChecksum))

/-! ## Whole-machine results -/

/-- The reset state satisfies the invariants I2 to I9 of R107, and has no FRAME in flight. -/
def Obligations.InvariantsHoldAtReset : Prop := State.reset.Inv

/-- R107: every step keeps the invariants I2 to I9, between transactions and inside a FRAME performed stage by stage. -/
def Obligations.EveryStepKeepsTheInvariants : Prop :=
  ∀ s t : State, s.Inv → step s = .next t → t.Inv

/-- R24, R67: a FRAME performed stage by stage, in the fixed order and under the model's own sequencing (log entry 1),
ends within nine steps in the very state the FRAME transaction gives in one, and until then no register has changed
(R34). -/
def Obligations.StageByStageFrameEqualsTheTransaction : Prop :=
  ∀ (s : State) (data : BitVec 64), s.idle → s.mode = .ready →
    ∃ n : Nat, 0 < n ∧ n ≤ 9 ∧
      Host.Core.run core n (s.beginFrame data) = exec (.frame data) s ∧
      ∀ (k : Nat) (t : State), k < n → Host.Core.run core k (s.beginFrame data) = .next t →
        ¬ t.idle ∧ t = { s with flight := t.flight }

/-- R133: from the reset state, one CFG and then only NOPs, empty ports and FRAMEs whose decoded frames are valid: no
fault is raised, and the block is READY at the end. -/
def Obligations.WellUsedSessionRaisesNoFault : Prop :=
  ∀ (flag : Bool) (seed : BitVec 64) (xs : List PortSample),
    (∀ x ∈ xs, x.rst = false ∧ ∀ w, x.cmd = some w → decodeCommand w = .nop ∨
      ∃ data, decodeCommand w = .frame data ∧
        (validate (decodeFrame wired (bytes data) (bytes seed) flag)).verdict = .ok) →
    ∃ t : State, Host.Core.run core (xs.length + 1)
        { State.reset with inputs := { rst := false, cmd := some (commandWord 1 flag seed) } :: xs } = .next t ∧
      t.mode = .ready ∧ t.fcause = .none ∧ t.outcome = some .done ∧ t.inputs = []

/-- From R68 for DECODE, R80 for the checks, R85 for the extractor and R100 (C6 of spec/90_conflicts.md): the results of a
FRAME depend on the raw frame, SEED and SCR alone: two READY blocks that differ in every other
register report the same. -/
def Obligations.FrameResultsDependOnlyOnFrameSeedAndVariant : Prop :=
  ∀ (s s' : State) (data : BitVec 64), s.idle → s'.idle → s.mode = .ready → s'.mode = .ready →
    s'.seed = s.seed → s'.scr = s.scr →
    ∃ t t', exec (.frame data) s = .next t ∧ exec (.frame data) s' = .next t' ∧
      t'.plain = t.plain ∧ t'.errMarker = t.errMarker ∧ t'.errChecksum = t.errChecksum ∧
      t'.extractor = t.extractor ∧ t'.mode = t.mode ∧ t'.outcome = t.outcome ∧
      (t.mode = .faulted → t'.fcause = t.fcause)

/-- R13, R14, R60: two blocks that differ in SEED alone, and are not READY with SCR = 1, cannot be told apart by the
host, whatever it goes on to present. -/
def Obligations.SeedIsNeverSeenUnlessReadyAndScrambled : Prop :=
  ∀ (n : Nat) (s : State) (seed : Frame), s.idle → ¬(s.mode = .ready ∧ s.scr = true) →
    ∃ t t' : State, Host.Core.run core n s = .next t ∧ Host.Core.run core n { s with seed := seed } = .next t' ∧
      t.sameToHost t'

/-- R35: a FRAME that passes validation, performed twice, leaves the same state; RESET twice likewise. -/
def Obligations.ValidFrameAndResetAreIdempotent : Prop :=
  (∀ (s t : State) (data : BitVec 64), s.mode = .ready → exec (.frame data) s = .next t → t.outcome = some .done →
    exec (.frame data) t = .next t) ∧
  (∀ s t : State, exec .reset s = .next t → exec .reset t = .next t)

/-- R70: SCRAMBLE and DECODE with scr = 1 undo each other, both ways, for every seed. -/
def Obligations.DecodeAndScrambleAreInverse : Prop :=
  ∀ seed f : Frame,
    decodeFrame wired (scrambleFrame wired f seed) seed true = f ∧
    scrambleFrame wired (decodeFrame wired f seed true) seed = f

/-- U7 of spec/93_implementation_defined.md, R70: the descrambler is a bijection on frames for any permutation, any
rotation amount up to 64 and any key string, whatever the seed. -/
def Obligations.DescramblerIsBijectiveForAnyConstants : Prop :=
  ∀ (c : Config) (seed : Frame), Function.Injective c.perm.get → c.rotRight ≤ 64 →
    Function.Bijective fun raw => decodeFrame c raw seed true

/-- R46: bytes 5 to 7 of a plain frame are ignored by validation and extraction and copied into PLAIN. -/
def Obligations.LastThreeBytesAreIgnoredAndKept : Prop :=
  ∀ (s : State) (data data' : BitVec 64), s.idle → s.mode = .ready → s.scr = false →
    data' >>> 24 = data >>> 24 →
    ∃ t t', exec (.frame data) s = .next t ∧ exec (.frame data') s = .next t' ∧
      t' = { t with plain := { t.plain with b5 := (bytes data').b5, b6 := (bytes data').b6, b7 := (bytes data').b7 } }

/-- R32: bytes and the 64-bit word are one another's inverse, byte i in bits 63-8i to 56-8i, and PLAIN is read so. -/
def Obligations.BytesAndWordArePackedBigEndian : Prop :=
  (∀ f : Frame, bytes (w64 f) = f) ∧ (∀ w : BitVec 64, w64 (bytes w) = w) ∧
  ∀ (s : State) (i : Fin 8),
    (s.readOutput .plain).extractLsb' (56 - 8 * i.val) 8 = s.plain.get i

/-- R12, R15, R17, R18, R110: the numbers by which the host reads MODE, FCAUSE, KIND and the two flags, in every state;
after every fault MODE = 2 and FCAUSE = the cause's number; after a FRAME with a wrong marker KIND = 0, ERR_MARKER = 1 and
PLAIN = the offending frame as well. -/
def Obligations.HostReadsTheRecordedFault : Prop :=
  (∀ s : State,
    (s.mode = .unconf → s.readOutput .mode = (0 : BitVec 2)) ∧
    (s.mode = .ready → s.readOutput .mode = (1 : BitVec 2)) ∧
    (s.mode = .faulted → s.readOutput .mode = (2 : BitVec 2)) ∧
    (s.fcause = .none → s.readOutput .fcause = (0 : BitVec 3)) ∧
    (s.fcause = .badMarker → s.readOutput .fcause = (1 : BitVec 3)) ∧
    (s.fcause = .badChecksum → s.readOutput .fcause = (2 : BitVec 3)) ∧
    (s.fcause = .notConfigured → s.readOutput .fcause = (3 : BitVec 3)) ∧
    (s.fcause = .cfgLocked → s.readOutput .fcause = (4 : BitVec 3)) ∧
    (s.fcause = .illegalOp → s.readOutput .fcause = (5 : BitVec 3)) ∧
    (s.kind = .none → s.readOutput .kind = (0 : BitVec 2)) ∧
    (s.kind = .temp → s.readOutput .kind = (1 : BitVec 2)) ∧
    (s.kind = .co2 → s.readOutput .kind = (2 : BitVec 2)) ∧
    (s.readOutput .errMarker = (1 : BitVec 1) ↔ s.errMarker = true) ∧
    (s.readOutput .errChecksum = (1 : BitVec 1) ↔ s.errChecksum = true)) ∧
  (∀ (i : Instr) (s t : State) (c : Cause), i.isStage = false → exec i s = .next t → t.outcome = some (.fault c) →
    t.readOutput .mode = (2 : BitVec 2) ∧
    (c = .badMarker → t.readOutput .fcause = (1 : BitVec 3)) ∧
    (c = .badChecksum → t.readOutput .fcause = (2 : BitVec 3)) ∧
    (c = .notConfigured → t.readOutput .fcause = (3 : BitVec 3)) ∧
    (c = .cfgLocked → t.readOutput .fcause = (4 : BitVec 3)) ∧
    (c = .illegalOp → t.readOutput .fcause = (5 : BitVec 3)) ∧
    c ≠ .none) ∧
  ∀ (s : State) (data : BitVec 64), s.idle → s.mode = .ready →
    (validate (decodeFrame wired (bytes data) s.seed s.scr)).verdict = .badMarker →
    ∃ t, exec (.frame data) s = .next t ∧ t.readOutput .mode = (2 : BitVec 2) ∧
      t.readOutput .fcause = (1 : BitVec 3) ∧ t.readOutput .kind = (0 : BitVec 2) ∧
      t.readOutput .errMarker = (1 : BitVec 1) ∧
      t.readOutput .plain = w64 (decodeFrame wired (bytes data) s.seed s.scr)
end

