-- ==== Sys2Proof/Laws/State.lean ====
section
/-! SUPPORT. One lemma per register and per named update of the state: what the update makes of the register. -/

namespace Sys2Proof.Machine


/-! ## `reply` -/

@[simp] theorem State.reply_mode (s : State) (o : TxOutcome) : (s.reply o).mode = s.mode := rfl
@[simp] theorem State.reply_seed (s : State) (o : TxOutcome) : (s.reply o).seed = s.seed := rfl
@[simp] theorem State.reply_scr (s : State) (o : TxOutcome) : (s.reply o).scr = s.scr := rfl
@[simp] theorem State.reply_fcause (s : State) (o : TxOutcome) : (s.reply o).fcause = s.fcause := rfl
@[simp] theorem State.reply_plain (s : State) (o : TxOutcome) : (s.reply o).plain = s.plain := rfl
@[simp] theorem State.reply_errMarker (s : State) (o : TxOutcome) : (s.reply o).errMarker = s.errMarker := rfl
@[simp] theorem State.reply_errChecksum (s : State) (o : TxOutcome) : (s.reply o).errChecksum = s.errChecksum := rfl
@[simp] theorem State.reply_kind (s : State) (o : TxOutcome) : (s.reply o).kind = s.kind := rfl
@[simp] theorem State.reply_code (s : State) (o : TxOutcome) : (s.reply o).code = s.code := rfl
@[simp] theorem State.reply_word (s : State) (o : TxOutcome) : (s.reply o).word = s.word := rfl
@[simp] theorem State.reply_tempE4 (s : State) (o : TxOutcome) : (s.reply o).tempE4 = s.tempE4 := rfl
@[simp] theorem State.reply_co2Ppm (s : State) (o : TxOutcome) : (s.reply o).co2Ppm = s.co2Ppm := rfl
@[simp] theorem State.reply_flight (s : State) (o : TxOutcome) : (s.reply o).flight = s.flight := rfl
@[simp] theorem State.reply_inputs (s : State) (o : TxOutcome) : (s.reply o).inputs = s.inputs := rfl
@[simp] theorem State.reply_outcome (s : State) (o : TxOutcome) : (s.reply o).outcome = some o := rfl

/-! ## `raiseFault` -/

@[simp] theorem State.raiseFault_mode (s : State) (c : Cause) : (s.raiseFault c).mode = .faulted := rfl
@[simp] theorem State.raiseFault_seed (s : State) (c : Cause) : (s.raiseFault c).seed = s.seed := rfl
@[simp] theorem State.raiseFault_scr (s : State) (c : Cause) : (s.raiseFault c).scr = s.scr := rfl
@[simp] theorem State.raiseFault_fcause (s : State) (c : Cause) : (s.raiseFault c).fcause = c := rfl
@[simp] theorem State.raiseFault_plain (s : State) (c : Cause) : (s.raiseFault c).plain = s.plain := rfl
@[simp] theorem State.raiseFault_errMarker (s : State) (c : Cause) : (s.raiseFault c).errMarker = s.errMarker := rfl
@[simp] theorem State.raiseFault_errChecksum (s : State) (c : Cause) : (s.raiseFault c).errChecksum = s.errChecksum := rfl
@[simp] theorem State.raiseFault_kind (s : State) (c : Cause) : (s.raiseFault c).kind = s.kind := rfl
@[simp] theorem State.raiseFault_code (s : State) (c : Cause) : (s.raiseFault c).code = s.code := rfl
@[simp] theorem State.raiseFault_word (s : State) (c : Cause) : (s.raiseFault c).word = s.word := rfl
@[simp] theorem State.raiseFault_tempE4 (s : State) (c : Cause) : (s.raiseFault c).tempE4 = s.tempE4 := rfl
@[simp] theorem State.raiseFault_co2Ppm (s : State) (c : Cause) : (s.raiseFault c).co2Ppm = s.co2Ppm := rfl
@[simp] theorem State.raiseFault_flight (s : State) (c : Cause) : (s.raiseFault c).flight = s.flight := rfl
@[simp] theorem State.raiseFault_inputs (s : State) (c : Cause) : (s.raiseFault c).inputs = s.inputs := rfl
@[simp] theorem State.raiseFault_outcome (s : State) (c : Cause) : (s.raiseFault c).outcome = some (.fault c) := rfl

/-! ## `configure` -/

@[simp] theorem State.configure_mode (s : State) (k : Frame) (b : Bool) : (s.configure k b).mode = .ready := rfl
@[simp] theorem State.configure_seed (s : State) (k : Frame) (b : Bool) : (s.configure k b).seed = k := rfl
@[simp] theorem State.configure_scr (s : State) (k : Frame) (b : Bool) : (s.configure k b).scr = b := rfl
@[simp] theorem State.configure_fcause (s : State) (k : Frame) (b : Bool) : (s.configure k b).fcause = s.fcause := rfl
@[simp] theorem State.configure_plain (s : State) (k : Frame) (b : Bool) : (s.configure k b).plain = s.plain := rfl
@[simp] theorem State.configure_errMarker (s : State) (k : Frame) (b : Bool) : (s.configure k b).errMarker = s.errMarker := rfl
@[simp] theorem State.configure_errChecksum (s : State) (k : Frame) (b : Bool) : (s.configure k b).errChecksum = s.errChecksum := rfl
@[simp] theorem State.configure_kind (s : State) (k : Frame) (b : Bool) : (s.configure k b).kind = s.kind := rfl
@[simp] theorem State.configure_code (s : State) (k : Frame) (b : Bool) : (s.configure k b).code = s.code := rfl
@[simp] theorem State.configure_word (s : State) (k : Frame) (b : Bool) : (s.configure k b).word = s.word := rfl
@[simp] theorem State.configure_tempE4 (s : State) (k : Frame) (b : Bool) : (s.configure k b).tempE4 = s.tempE4 := rfl
@[simp] theorem State.configure_co2Ppm (s : State) (k : Frame) (b : Bool) : (s.configure k b).co2Ppm = s.co2Ppm := rfl
@[simp] theorem State.configure_flight (s : State) (k : Frame) (b : Bool) : (s.configure k b).flight = s.flight := rfl
@[simp] theorem State.configure_inputs (s : State) (k : Frame) (b : Bool) : (s.configure k b).inputs = s.inputs := rfl
@[simp] theorem State.configure_outcome (s : State) (k : Frame) (b : Bool) : (s.configure k b).outcome = s.outcome := rfl

/-! ## `writeResults` -/

@[simp] theorem State.writeResults_mode (s : State) (p : Frame) (em ec : Bool) (x : Extracted) : (s.writeResults p em ec x).mode = s.mode := rfl
@[simp] theorem State.writeResults_seed (s : State) (p : Frame) (em ec : Bool) (x : Extracted) : (s.writeResults p em ec x).seed = s.seed := rfl
@[simp] theorem State.writeResults_scr (s : State) (p : Frame) (em ec : Bool) (x : Extracted) : (s.writeResults p em ec x).scr = s.scr := rfl
@[simp] theorem State.writeResults_fcause (s : State) (p : Frame) (em ec : Bool) (x : Extracted) : (s.writeResults p em ec x).fcause = s.fcause := rfl
@[simp] theorem State.writeResults_plain (s : State) (p : Frame) (em ec : Bool) (x : Extracted) : (s.writeResults p em ec x).plain = p := rfl
@[simp] theorem State.writeResults_errMarker (s : State) (p : Frame) (em ec : Bool) (x : Extracted) : (s.writeResults p em ec x).errMarker = em := rfl
@[simp] theorem State.writeResults_errChecksum (s : State) (p : Frame) (em ec : Bool) (x : Extracted) : (s.writeResults p em ec x).errChecksum = ec := rfl
@[simp] theorem State.writeResults_kind (s : State) (p : Frame) (em ec : Bool) (x : Extracted) : (s.writeResults p em ec x).kind = x.kind := rfl
@[simp] theorem State.writeResults_code (s : State) (p : Frame) (em ec : Bool) (x : Extracted) : (s.writeResults p em ec x).code = x.code := rfl
@[simp] theorem State.writeResults_word (s : State) (p : Frame) (em ec : Bool) (x : Extracted) : (s.writeResults p em ec x).word = x.word := rfl
@[simp] theorem State.writeResults_tempE4 (s : State) (p : Frame) (em ec : Bool) (x : Extracted) : (s.writeResults p em ec x).tempE4 = x.tempE4 := rfl
@[simp] theorem State.writeResults_co2Ppm (s : State) (p : Frame) (em ec : Bool) (x : Extracted) : (s.writeResults p em ec x).co2Ppm = x.co2Ppm := rfl
@[simp] theorem State.writeResults_flight (s : State) (p : Frame) (em ec : Bool) (x : Extracted) : (s.writeResults p em ec x).flight = s.flight := rfl
@[simp] theorem State.writeResults_inputs (s : State) (p : Frame) (em ec : Bool) (x : Extracted) : (s.writeResults p em ec x).inputs = s.inputs := rfl
@[simp] theorem State.writeResults_outcome (s : State) (p : Frame) (em ec : Bool) (x : Extracted) : (s.writeResults p em ec x).outcome = s.outcome := rfl

/-! ## `endValid` -/

@[simp] theorem State.endValid_mode (s : State) (p : Frame) (v : Validation) (x : Extracted) : (s.endValid p v x).mode = s.mode := rfl
@[simp] theorem State.endValid_seed (s : State) (p : Frame) (v : Validation) (x : Extracted) : (s.endValid p v x).seed = s.seed := rfl
@[simp] theorem State.endValid_scr (s : State) (p : Frame) (v : Validation) (x : Extracted) : (s.endValid p v x).scr = s.scr := rfl
@[simp] theorem State.endValid_fcause (s : State) (p : Frame) (v : Validation) (x : Extracted) : (s.endValid p v x).fcause = s.fcause := rfl
@[simp] theorem State.endValid_plain (s : State) (p : Frame) (v : Validation) (x : Extracted) : (s.endValid p v x).plain = p := rfl
@[simp] theorem State.endValid_errMarker (s : State) (p : Frame) (v : Validation) (x : Extracted) : (s.endValid p v x).errMarker = v.em := rfl
@[simp] theorem State.endValid_errChecksum (s : State) (p : Frame) (v : Validation) (x : Extracted) : (s.endValid p v x).errChecksum = v.ec := rfl
@[simp] theorem State.endValid_kind (s : State) (p : Frame) (v : Validation) (x : Extracted) : (s.endValid p v x).kind = x.kind := rfl
@[simp] theorem State.endValid_code (s : State) (p : Frame) (v : Validation) (x : Extracted) : (s.endValid p v x).code = x.code := rfl
@[simp] theorem State.endValid_word (s : State) (p : Frame) (v : Validation) (x : Extracted) : (s.endValid p v x).word = x.word := rfl
@[simp] theorem State.endValid_tempE4 (s : State) (p : Frame) (v : Validation) (x : Extracted) : (s.endValid p v x).tempE4 = x.tempE4 := rfl
@[simp] theorem State.endValid_co2Ppm (s : State) (p : Frame) (v : Validation) (x : Extracted) : (s.endValid p v x).co2Ppm = x.co2Ppm := rfl
@[simp] theorem State.endValid_flight (s : State) (p : Frame) (v : Validation) (x : Extracted) : (s.endValid p v x).flight = s.flight := rfl
@[simp] theorem State.endValid_inputs (s : State) (p : Frame) (v : Validation) (x : Extracted) : (s.endValid p v x).inputs = s.inputs := rfl
@[simp] theorem State.endValid_outcome (s : State) (p : Frame) (v : Validation) (x : Extracted) : (s.endValid p v x).outcome = some .done := rfl

/-! ## `endInvalid` -/

@[simp] theorem State.endInvalid_mode (s : State) (p : Frame) (v : Validation) : (s.endInvalid p v).mode = .faulted := rfl
@[simp] theorem State.endInvalid_seed (s : State) (p : Frame) (v : Validation) : (s.endInvalid p v).seed = s.seed := rfl
@[simp] theorem State.endInvalid_scr (s : State) (p : Frame) (v : Validation) : (s.endInvalid p v).scr = s.scr := rfl
@[simp] theorem State.endInvalid_fcause (s : State) (p : Frame) (v : Validation) : (s.endInvalid p v).fcause = v.verdict.cause := rfl
@[simp] theorem State.endInvalid_plain (s : State) (p : Frame) (v : Validation) : (s.endInvalid p v).plain = p := rfl
@[simp] theorem State.endInvalid_errMarker (s : State) (p : Frame) (v : Validation) : (s.endInvalid p v).errMarker = v.em := rfl
@[simp] theorem State.endInvalid_errChecksum (s : State) (p : Frame) (v : Validation) : (s.endInvalid p v).errChecksum = v.ec := rfl
@[simp] theorem State.endInvalid_kind (s : State) (p : Frame) (v : Validation) : (s.endInvalid p v).kind = .none := rfl
@[simp] theorem State.endInvalid_code (s : State) (p : Frame) (v : Validation) : (s.endInvalid p v).code = 0 := rfl
@[simp] theorem State.endInvalid_word (s : State) (p : Frame) (v : Validation) : (s.endInvalid p v).word = 0 := rfl
@[simp] theorem State.endInvalid_tempE4 (s : State) (p : Frame) (v : Validation) : (s.endInvalid p v).tempE4 = 0 := rfl
@[simp] theorem State.endInvalid_co2Ppm (s : State) (p : Frame) (v : Validation) : (s.endInvalid p v).co2Ppm = 0 := rfl
@[simp] theorem State.endInvalid_flight (s : State) (p : Frame) (v : Validation) : (s.endInvalid p v).flight = s.flight := rfl
@[simp] theorem State.endInvalid_inputs (s : State) (p : Frame) (v : Validation) : (s.endInvalid p v).inputs = s.inputs := rfl
@[simp] theorem State.endInvalid_outcome (s : State) (p : Frame) (v : Validation) : (s.endInvalid p v).outcome = some (.fault v.verdict.cause) := rfl

/-! ## `setFlight` -/

@[simp] theorem State.setFlight_mode (s : State) (f : Option Flight) : (s.setFlight f).mode = s.mode := rfl
@[simp] theorem State.setFlight_seed (s : State) (f : Option Flight) : (s.setFlight f).seed = s.seed := rfl
@[simp] theorem State.setFlight_scr (s : State) (f : Option Flight) : (s.setFlight f).scr = s.scr := rfl
@[simp] theorem State.setFlight_fcause (s : State) (f : Option Flight) : (s.setFlight f).fcause = s.fcause := rfl
@[simp] theorem State.setFlight_plain (s : State) (f : Option Flight) : (s.setFlight f).plain = s.plain := rfl
@[simp] theorem State.setFlight_errMarker (s : State) (f : Option Flight) : (s.setFlight f).errMarker = s.errMarker := rfl
@[simp] theorem State.setFlight_errChecksum (s : State) (f : Option Flight) : (s.setFlight f).errChecksum = s.errChecksum := rfl
@[simp] theorem State.setFlight_kind (s : State) (f : Option Flight) : (s.setFlight f).kind = s.kind := rfl
@[simp] theorem State.setFlight_code (s : State) (f : Option Flight) : (s.setFlight f).code = s.code := rfl
@[simp] theorem State.setFlight_word (s : State) (f : Option Flight) : (s.setFlight f).word = s.word := rfl
@[simp] theorem State.setFlight_tempE4 (s : State) (f : Option Flight) : (s.setFlight f).tempE4 = s.tempE4 := rfl
@[simp] theorem State.setFlight_co2Ppm (s : State) (f : Option Flight) : (s.setFlight f).co2Ppm = s.co2Ppm := rfl
@[simp] theorem State.setFlight_flight (s : State) (f : Option Flight) : (s.setFlight f).flight = f := rfl
@[simp] theorem State.setFlight_inputs (s : State) (f : Option Flight) : (s.setFlight f).inputs = s.inputs := rfl
@[simp] theorem State.setFlight_outcome (s : State) (f : Option Flight) : (s.setFlight f).outcome = s.outcome := rfl

/-! ## `beginFrame` -/

@[simp] theorem State.beginFrame_mode (s : State) (d : BitVec 64) : (s.beginFrame d).mode = s.mode := rfl
@[simp] theorem State.beginFrame_seed (s : State) (d : BitVec 64) : (s.beginFrame d).seed = s.seed := rfl
@[simp] theorem State.beginFrame_scr (s : State) (d : BitVec 64) : (s.beginFrame d).scr = s.scr := rfl
@[simp] theorem State.beginFrame_fcause (s : State) (d : BitVec 64) : (s.beginFrame d).fcause = s.fcause := rfl
@[simp] theorem State.beginFrame_plain (s : State) (d : BitVec 64) : (s.beginFrame d).plain = s.plain := rfl
@[simp] theorem State.beginFrame_errMarker (s : State) (d : BitVec 64) : (s.beginFrame d).errMarker = s.errMarker := rfl
@[simp] theorem State.beginFrame_errChecksum (s : State) (d : BitVec 64) : (s.beginFrame d).errChecksum = s.errChecksum := rfl
@[simp] theorem State.beginFrame_kind (s : State) (d : BitVec 64) : (s.beginFrame d).kind = s.kind := rfl
@[simp] theorem State.beginFrame_code (s : State) (d : BitVec 64) : (s.beginFrame d).code = s.code := rfl
@[simp] theorem State.beginFrame_word (s : State) (d : BitVec 64) : (s.beginFrame d).word = s.word := rfl
@[simp] theorem State.beginFrame_tempE4 (s : State) (d : BitVec 64) : (s.beginFrame d).tempE4 = s.tempE4 := rfl
@[simp] theorem State.beginFrame_co2Ppm (s : State) (d : BitVec 64) : (s.beginFrame d).co2Ppm = s.co2Ppm := rfl
@[simp] theorem State.beginFrame_flight (s : State) (d : BitVec 64) : (s.beginFrame d).flight = some (.raw (bytes d)) := rfl
@[simp] theorem State.beginFrame_inputs (s : State) (d : BitVec 64) : (s.beginFrame d).inputs = s.inputs := rfl
@[simp] theorem State.beginFrame_outcome (s : State) (d : BitVec 64) : (s.beginFrame d).outcome = s.outcome := rfl

/-! ## `resetRegisters` -/

@[simp] theorem State.resetRegisters_mode (s : State) : s.resetRegisters.mode = State.reset.mode := rfl
@[simp] theorem State.resetRegisters_seed (s : State) : s.resetRegisters.seed = State.reset.seed := rfl
@[simp] theorem State.resetRegisters_scr (s : State) : s.resetRegisters.scr = State.reset.scr := rfl
@[simp] theorem State.resetRegisters_fcause (s : State) : s.resetRegisters.fcause = State.reset.fcause := rfl
@[simp] theorem State.resetRegisters_plain (s : State) : s.resetRegisters.plain = State.reset.plain := rfl
@[simp] theorem State.resetRegisters_errMarker (s : State) : s.resetRegisters.errMarker = State.reset.errMarker := rfl
@[simp] theorem State.resetRegisters_errChecksum (s : State) : s.resetRegisters.errChecksum = State.reset.errChecksum := rfl
@[simp] theorem State.resetRegisters_kind (s : State) : s.resetRegisters.kind = State.reset.kind := rfl
@[simp] theorem State.resetRegisters_code (s : State) : s.resetRegisters.code = State.reset.code := rfl
@[simp] theorem State.resetRegisters_word (s : State) : s.resetRegisters.word = State.reset.word := rfl
@[simp] theorem State.resetRegisters_tempE4 (s : State) : s.resetRegisters.tempE4 = State.reset.tempE4 := rfl
@[simp] theorem State.resetRegisters_co2Ppm (s : State) : s.resetRegisters.co2Ppm = State.reset.co2Ppm := rfl
@[simp] theorem State.resetRegisters_flight (s : State) : s.resetRegisters.flight = State.reset.flight := rfl
@[simp] theorem State.resetRegisters_inputs (s : State) : s.resetRegisters.inputs = s.inputs := rfl
@[simp] theorem State.resetRegisters_outcome (s : State) : s.resetRegisters.outcome = some .done := rfl

end Sys2Proof.Machine
end

