-- ==== Sys2Proof/Laws/Ops.lean ====
section
/-! SUPPORT. What each shared operation can do, said once: reading a built vector, starting a transaction, ignoring a
command, running a stage, ending a frame, fetching. -/

namespace Sys2Proof

/-- Reading back the vector built from `g`. -/
@[simp] theorem Eight.get_ofFn {α : Type} (g : Fin 8 → α) (i : Fin 8) : (Eight.ofFn g).get i = g i := by
  fin_cases i <;> rfl

/-- Two vectors with the same eight elements are the same. -/
theorem Eight.ext_get {α : Type} {f g : Eight α} (h : ∀ i, f.get i = g.get i) : f = g := by
  ext
  · exact h 0
  · exact h 1
  · exact h 2
  · exact h 3
  · exact h 4
  · exact h 5
  · exact h 6
  · exact h 7

end Sys2Proof

namespace Sys2Proof.Machine

/-- Between transactions a transaction runs. -/
theorem State.transact_of_idle {s : State} (h : s.flight = none) (run : State → State) :
    s.transact run = .next (run s) := by simp [State.transact, h]

/-- With a FRAME in flight no transaction begins. -/
theorem State.transact_of_flight {s : State} {f : Flight} (h : s.flight = some f) (run : State → State) :
    s.transact run = .fault .overlappingTransaction := by simp [State.transact, h]

/-- Everything a transaction can do, where it gives a next state. -/
theorem State.transact_next {s t : State} {run : State → State} (h : s.transact run = .next t) :
    s.flight = none ∧ t = run s := by
  cases hf : s.flight with
  | some f => simp [State.transact, hf] at h
  | none => simpa [State.transact, hf, eq_comm] using h

/-- A command out of UNCONF or READY runs. -/
theorem State.command_of_good {s : State} (h : s.flight = none) (hm : s.mode ≠ .faulted) (run : State → State) :
    s.command run = .next (run s) := by simp [State.command, State.transact, h, hm]

/-- A command in FAULTED is ignored. -/
theorem State.command_of_faulted {s : State} (h : s.flight = none) (hm : s.mode = .faulted) (run : State → State) :
    s.command run = .next (s.reply .ignored) := by simp [State.command, State.transact, h, hm]

/-- Everything a command can do, where it gives a next state. -/
theorem State.command_next {s t : State} {run : State → State} (h : s.command run = .next t) :
    s.flight = none ∧ ((s.mode = .faulted ∧ t = s.reply .ignored) ∨ (s.mode ≠ .faulted ∧ t = run s)) := by
  obtain ⟨hf, ht⟩ := State.transact_next h
  refine ⟨hf, ?_⟩
  by_cases hm : s.mode = .faulted
  · exact .inl ⟨hm, by simpa [hm] using ht⟩
  · exact .inr ⟨hm, by simpa [hm] using ht⟩

/-- A stage whose condition holds moves the locals on. -/
theorem State.runStage_of {s : State} {f g : Flight} {next : Flight → Option Flight} (hm : s.mode = .ready)
    (hf : s.flight = some f) (hn : next f = some g) : s.runStage true next = .next (s.setFlight (some g)) := by
  simp [State.runStage, hm, hf, hn]

/-- Everything a stage can do, where it gives a next state: it moves the locals of the FRAME in flight and nothing
else. -/
theorem State.runStage_next {s t : State} {c : Bool} {next : Flight → Option Flight}
    (h : s.runStage c next = .next t) :
    s.mode = .ready ∧ c = true ∧ ∃ f g, s.flight = some f ∧ next f = some g ∧ t = s.setFlight (some g) := by
  unfold State.runStage at h
  split at h
  · rename_i hc
    split at h
    · rename_i g hg
      obtain ⟨f, hf, hn⟩ := Option.bind_eq_some_iff.mp hg
      exact ⟨hc.1, hc.2, f, g, hf, hn, by simpa [eq_comm] using h⟩
    · cases h
  · cases h

/-- Outside READY, outside its own condition or outside a FRAME in flight, a stage is not selected. -/
theorem State.runStage_stops {s : State} {c : Bool} {next : Flight → Option Flight}
    (h : s.mode ≠ .ready ∨ c = false ∨ s.flight = none) : s.runStage c next = .refused .stageNotSelected := by
  unfold State.runStage
  rcases h with h | h | h <;> simp [h]

/-- Nothing is in flight: there is nothing to end. -/
theorem State.retire_of_idle {s : State} (h : s.flight = none) : s.retire = s := by simp [State.retire, h]

/-- Between transactions the next sample is fetched and consumed. -/
theorem State.fetch_of_idle {s : State} {x : PortSample} {rest : List PortSample} (h : s.flight = none)
    (hi : s.inputs = x :: rest) : s.fetch = x.encoded ∧ s.advance = { s with inputs := rest } := by
  simp [State.fetch, State.advance, h, hi]

/-- An idle port is fetched as NOP. -/
theorem State.fetch_of_idle_port {s : State} (h : s.flight = none) (hi : s.inputs = []) :
    s.fetch = .command 0 := by simp [State.fetch, h, hi]

/-- With a FRAME in flight the place it has reached is fetched, and no sample is consumed. -/
theorem State.fetch_of_flight {s : State} {f : Flight} (h : s.flight = some f) :
    s.fetch = f.encoded s.scr ∧ s.advance = s := by simp [State.fetch, State.advance, h]

/-- A run begins with a step that gives a next state, on any machine. -/
theorem run_succ_of {M : Host.Core} {s t : M.State} (h : M.step s = .next t) (n : Nat) :
    M.run (n + 1) s = M.run n t := by
  simp [Host.Core.run, h]

/-- A run of the block begins with a step that gives a next state. -/
theorem run_succ {s t : State} (h : step s = .next t) (n : Nat) :
    Host.Core.run core (n + 1) s = Host.Core.run core n t := run_succ_of (M := core) h n

/-- The port never presents what the decoder rejects (spec/30_encoding.md R51). -/
theorem PortSample.decodes (x : PortSample) : ∃ i, decode x.encoded = .ok i := by
  unfold PortSample.encoded
  split
  · exact ⟨_, rfl⟩
  · split <;> exact ⟨_, rfl⟩

/-- The marker flag in terms of byte 4. -/
theorem chkmark_eq (p : Frame) : chkmark p = decide (p.b4 ≠ 0x0D) := by
  simp [chkmark, wired, Eight.get, bne, beq_eq_decide]

/-- The checksum flag in terms of bytes 0 to 3. -/
theorem chksum_eq (p : Frame) :
    chksum p = decide ((p.b0.toNat + p.b1.toNat + p.b2.toNat) % 256 ≠ p.b3.toNat) := by
  simp [chksum, checksumOf, wired, Eight.get, bne, beq_eq_decide, ← BitVec.toNat_inj]

/-- The verdict is `ok` exactly when both checks pass. -/
theorem validate_ok_iff (p : Frame) : (validate p).verdict = .ok ↔ chkmark p = false ∧ chksum p = false := by
  cases h1 : chkmark p <;> cases h2 : chksum p <;> simp [validate, verdictOf, h1, h2]

/-- The raw word as an integer: no bit of byte 1 is lost (spec/42_extractor.md R86). -/
theorem wordOf_toNat (p : Frame) : (wordOf p).toNat = 256 * p.b1.toNat + p.b2.toNat := by
  have h1 := p.b1.isLt
  have h2 := p.b2.isLt
  have e : (wordOf p).toNat = (p.b1.toNat <<< 8) ||| p.b2.toNat := by
    have hb : p.b1.toNat <<< 8 < 65536 := by rw [Nat.shiftLeft_eq]; omega
    simp only [wordOf, Eight.get, BitVec.toNat_or, BitVec.toNat_shiftLeft, BitVec.toNat_setWidth]
    rw [Nat.mod_eq_of_lt (a := p.b1.toNat) (by omega), Nat.mod_eq_of_lt (a := p.b2.toNat) (by omega),
      Nat.mod_eq_of_lt hb]
  rw [e, ← Nat.shiftLeft_add_eq_or_of_lt (by simpa using h2), Nat.shiftLeft_eq]
  omega

/-- TEMP_E4 never overflows its 32 bits (spec/42_extractor.md R91). -/
theorem measureTemp_toInt (word : RawWord) :
    (measureTemp wired word).tempE4.toInt = (word.toNat : Int) * 625 - 2731500 := by
  have h := word.isLt
  simp only [measureTemp, wired, BitVec.toInt_ofInt]
  rw [Int.bmod_eq_of_le] <;> omega

end Sys2Proof.Machine
end

