-- ==== Sys2Proof/Laws/PerInstr.lean ====
section
/-! SUPPORT. The family TableRow: the encoding of every well-formed instruction lies in its own row of
spec/opcode_table.json (spec/30_encoding.md R58), one lemma per constructor. -/

namespace Sys2Proof.Laws.TableRow

open Sys2Proof.Machine

/-- How a row of the table selects: its format, with its match and mask where the format has bits of its own. -/
inductive Row where
  /-- PIN: no bits -/
  | pin
  /-- CW: match over the 67-bit command word, under the mask of the op field -/
  | cw (bits : CommandWord)
  /-- STAGE: no selecting bits of its own -/
  | stage
  /-- PF: match and mask over `W64(plain)` -/
  | pf (bits mask : BitVec 64)

/-- The rows as the table gives them. -/
def row (i : Instr) : Row :=
  match i with
  | .reset => .pin
  | .nop => .cw 0x00000000000000000
  | .cfg _ _ => .cw 0x20000000000000000
  | .frame _ => .cw 0x40000000000000000
  | .rsvd3 => .cw 0x60000000000000000
  | .bypass => .stage
  | .perm => .stage
  | .xorseed => .stage
  | .rotr3 => .stage
  | .subkey => .stage
  | .chkmark => .stage
  | .chksum => .stage
  | .validate => .stage
  | .extract => .stage
  | .measTemp _ => .pf 0x420000000D000000 0xFF000000FF000000
  | .measCo2 _ => .pf 0x500000000D000000 0xFF000000FF000000
  | .measOther _ _ => .pf 0x000000000D000000 0x00000000FF000000

/-- An encoded object lies in a row. -/
def Row.admits (r : Row) (e : Encoded) : Prop :=
  match r, e with
  | .pin, .rst => True
  | .cw bits, .command w => w &&& 0x60000000000000000 = bits
  | .stage, .stage _ _ => True
  | .pf bits mask, .plain w => w &&& mask = bits
  | _, _ => False

/-- The instruction's encoding lies in its row. -/
def Statement (i : Instr) : Prop := i.wellFormed = true → (row i).admits (encode i)

/-- The op field alone is left of a command word under the mask. -/
theorem commandWord_and_mask (op : BitVec 2) (flag : Bool) (data : BitVec 64) :
    commandWord op flag data &&& 0x60000000000000000#67 = op.setWidth 67 <<< 65 := by
  apply BitVec.eq_of_getLsbD_eq
  intro i hi
  by_cases h : i < 65
  · have hm : (0x60000000000000000#67).getLsbD i = false := by interval_cases i <;> decide
    rw [BitVec.getLsbD_and, hm]
    simp [h]
  · have hd : data.getLsbD i = false := BitVec.getLsbD_of_ge _ _ (by omega)
    interval_cases i <;> simp_all [commandWord]

/-- Bytes 0 and 4 alone are left of a packed frame under the mask of two bytes. -/
theorem w64_and_code_marker (p : Frame) : w64 p &&& 0xFF000000FF000000 = lane p.b0 0 ||| lane p.b4 4 := by
  apply BitVec.eq_of_getLsbD_eq
  intro i hi
  simp only [w64, lane, BitVec.getLsbD_and, BitVec.getLsbD_or]
  interval_cases i <;> simp

/-- Byte 4 alone is left of a packed frame under the mask of one byte. -/
theorem w64_and_marker (p : Frame) : w64 p &&& 0x00000000FF000000 = lane p.b4 4 := by
  apply BitVec.eq_of_getLsbD_eq
  intro i hi
  simp only [w64, lane, BitVec.getLsbD_and, BitVec.getLsbD_or]
  interval_cases i <;> simp

theorem reset : Statement .reset := fun _ => trivial
theorem nop : Statement .nop := fun _ => commandWord_and_mask 0 false 0
theorem cfg (flag : Bool) (data : BitVec 64) : Statement (.cfg flag data) := fun _ => commandWord_and_mask 1 flag data
theorem frame (data : BitVec 64) : Statement (.frame data) := fun _ => commandWord_and_mask 2 false data
theorem rsvd3 : Statement .rsvd3 := fun _ => commandWord_and_mask 3 false 0
theorem bypass : Statement .bypass := fun _ => trivial
theorem perm : Statement .perm := fun _ => trivial
theorem xorseed : Statement .xorseed := fun _ => trivial
theorem rotr3 : Statement .rotr3 := fun _ => trivial
theorem subkey : Statement .subkey := fun _ => trivial
theorem chkmark : Statement .chkmark := fun _ => trivial
theorem chksum : Statement .chksum := fun _ => trivial
theorem validate : Statement .validate := fun _ => trivial
theorem extract : Statement .extract := fun _ => trivial
theorem measTemp (word : RawWord) : Statement (.measTemp word) :=
  fun _ => (w64_and_code_marker (plainFrame wired.codeTemp word)).trans (show lane 0x42 0 ||| lane 0x0D 4 = _ by decide)
theorem measCo2 (word : RawWord) : Statement (.measCo2 word) :=
  fun _ => (w64_and_code_marker (plainFrame wired.codeCo2 word)).trans (show lane 0x50 0 ||| lane 0x0D 4 = _ by decide)
theorem measOther (code : Byte) (word : RawWord) : Statement (.measOther code word) :=
  fun _ => (w64_and_marker (plainFrame code word)).trans (show lane 0x0D 4 = _ by decide)

end Sys2Proof.Laws.TableRow
end

