-- ==== Sys2Proof/Tests/Slice0.lean ====
section
/-! SUPPORT. Tests of the model against the values of spec/95_test_vectors.md, and, for every statement that has
hypotheses, a theorem `test_witness_…` showing values that meet them all. -/

namespace Sys2Proof.Tests

open Sys2Proof Sys2Proof.Machine

/-! ## Helpers -/

/-- The seed of vector V20. -/
def seedV20 : Frame := ⟨0x01, 0x23, 0x45, 0x67, 0x89, 0xAB, 0xCD, 0xEF⟩

/-- The plain frame of V20 and of scenario S1. -/
def plainV20 : Frame := ⟨0x42, 0x10, 0x00, 0x52, 0x0D, 0x00, 0x00, 0x00⟩

/-- READY after a CFG with the seed of V20. -/
def ready (scr : Bool) : State := State.reset.configure seedV20 scr

/-- FAULTED after a bad checksum in a scrambled session. -/
def faulted : State := (ready true).raiseFault .badChecksum

/-- A FRAME in flight at the given place. -/
def flying (scr : Bool) (f : Flight) : State := (ready scr).setFlight (some f)

/-- A judged frame in flight, its verdict `ok`. -/
def judged (p : Frame) : State := flying false (.judged p (validate p))

/-- A sample that presents a command word. -/
def present (w : CommandWord) : PortSample := { rst := false, cmd := some w }

/-- The outcome is a next state of which `p` holds. -/
def goesTo (o : Host.Outcome State Fault Refusal) (p : State → Bool) : Bool :=
  match o with
  | .next t => p t
  | _ => false

/-- The outcome is a next state with this frame in flight. -/
def fliesTo (o : Host.Outcome State Fault Refusal) (f : Flight) : Bool := goesTo o fun t => t.flight == some f

/-- Mode, cause and outcome after. -/
def ends (o : Host.Outcome State Fault Refusal) (m : Mode) (c : Cause) (x : TxOutcome) : Bool :=
  goesTo o fun t => t.mode == m && t.fcause == c && t.outcome == some x

/-- The eight result registers after. -/
def shows (o : Host.Outcome State Fault Refusal) (p : Frame) (em ec : Bool) (x : Extracted) : Bool :=
  goesTo o fun t => t.plain == p && t.errMarker == em && t.errChecksum == ec && t.extractor == x

/-! ## Well-formedness: the default row of the code map excludes the two recognised codes -/

theorem test_wf_other_refuses_temp_code : (Instr.measOther 0x42 0x1000).wellFormed = false := by decide
theorem test_wf_other_refuses_co2_code : (Instr.measOther 0x50 0x0190).wellFormed = false := by decide
theorem test_wf_other_admits_neighbours :
    (Instr.measOther 0x41 0).wellFormed = true ∧ (Instr.measOther 0x51 0).wellFormed = true := by decide

/-! ## Decoding: words written out from spec/30_encoding.md R50, R53, R57 and spec/95_test_vectors.md 2.8 -/

theorem test_decode_rst : decode .rst = .ok .reset := by decide
theorem test_decode_nop : decode (.command 0x00000000000000000) = .ok .nop := by decide
theorem test_decode_cfg_scrambled :
    decode (.command 0x30123456789ABCDEF) = .ok (.cfg true 0x0123456789ABCDEF) := by decide
theorem test_decode_cfg_plain :
    decode (.command 0x20123456789ABCDEF) = .ok (.cfg false 0x0123456789ABCDEF) := by decide
theorem test_decode_frame : decode (.command 0x4F42D335999573727) = .ok (.frame 0xF42D335999573727) := by decide
theorem test_decode_frame_ignores_flag :
    decode (.command 0x5421000520D000000) = .ok (.frame 0x421000520D000000) := by decide
theorem test_decode_rsvd3 : decode (.command 0x7FFFFFFFFFFFFFFFF) = .ok .rsvd3 := by decide
theorem test_decode_bypass : decode (.stage false .raw) = .ok .bypass := by decide
theorem test_decode_perm : decode (.stage true .raw) = .ok .perm := by decide
theorem test_decode_xorseed : decode (.stage true .p1) = .ok .xorseed := by decide
theorem test_decode_rotr3 : decode (.stage true .p2) = .ok .rotr3 := by decide
theorem test_decode_subkey : decode (.stage true .p3) = .ok .subkey := by decide
theorem test_decode_no_stage_in_bypass : decode (.stage false .p2) = .error .noStage := by decide
theorem test_decode_checks_with_both_scr :
    decode (.stage true .plain) = .ok .chkmark ∧ decode (.stage false .plain) = .ok .chkmark ∧
    decode (.stage true .marked) = .ok .chksum ∧ decode (.stage false .marked) = .ok .chksum := by decide
theorem test_decode_validate : decode (.stage true .summed) = .ok .validate := by decide
theorem test_decode_extract : decode (.stage false .measured) = .ok .extract := by decide
theorem test_decode_temp : decode (.plain 0x421269BD0DAA55FF) = .ok (.measTemp 0x1269) := by decide
theorem test_decode_co2 : decode (.plain 0x500BB9140D000000) = .ok (.measCo2 0x0BB9) := by decide
theorem test_decode_other : decode (.plain 0xFFFFFFFD0D010203) = .ok (.measOther 0xFF 0xFFFF) := by decide
theorem test_decode_bad_marker_first : decode (.plain 0x4210005300000000) = .error .badMarker := by decide
theorem test_decode_bad_checksum : decode (.plain 0x421001520D000000) = .error .badChecksum := by decide
theorem test_table_word_rst : decodeTableWord 8 0 = some .reset := by decide
theorem test_table_word_frame : decodeTableWord 72 0x4421000520D000000 = some (.frame 0x421000520D000000) := by decide
theorem test_table_word_other : decodeTableWord 64 0x0D000000 = some (.measOther 0 0) := by decide
/-- The table's match for MEAS.TEMP leaves the checksum out; as a plain frame it fails that check (R58, R77). -/
theorem test_table_word_needs_checksum :
    decodeTableWord 64 0x420000000D000000 = none ∧ decodeTableWord 64 0x420000420D000000 = some (.measTemp 0) := by
  decide

/-- A placed word is what the next step runs. -/
theorem test_placed_word_runs :
    goesTo (step (State.reset.withFetchWord 72 0x30123456789ABCDEF)) (fun t => t.mode == .ready && t.seed == seedV20) =
      true ∧
    goesTo (step (State.reset.withFetchWord 64 0x420000420D000000)) (fun t => t.flight.isSome) = true ∧
    ends (step (State.reset.withFetchWord 8 0)) .unconf .none .done = true := by decide

/-! ## The constants -/

theorem test_key : keyOf wired = ⟨0x84, 0x47, 0x56, 0xD6, 0x07, 0x93, 0x93, 0x56⟩ := by decide
theorem test_perm_is_involution : ∀ i : Fin 8, wired.perm.get (wired.perm.get i) = i := by decide
theorem test_register_bits : registerBits = 210 := by decide

/-! ## The descrambler (vectors V1 to V30) -/

theorem test_bypass_V27 :
    fliesTo (exec .bypass (flying false (.raw plainV20))) (.plain plainV20) = true := by decide
theorem test_perm_V1 :
    fliesTo (exec .perm (flying true (.raw ⟨0, 1, 2, 3, 4, 5, 6, 7⟩))) (.p1 ⟨2, 4, 0, 7, 1, 6, 5, 3⟩) = true := by decide
theorem test_perm_V5 :
    fliesTo (exec .perm (flying true (.raw ⟨0xF4, 0x2D, 0x33, 0x59, 0x99, 0x57, 0x37, 0x27⟩)))
      (.p1 ⟨0x33, 0x99, 0xF4, 0x27, 0x2D, 0x37, 0x57, 0x59⟩) = true := by decide
theorem test_xorseed_V6 :
    fliesTo (exec .xorseed (flying true (.p1 ⟨0x33, 0x99, 0xF4, 0x27, 0x2D, 0x37, 0x57, 0x59⟩)))
      (.p2 ⟨0x32, 0xBA, 0xB1, 0x40, 0xA4, 0x9C, 0x9A, 0xB6⟩) = true := by decide
theorem test_rotr3_V10 :
    fliesTo (exec .rotr3 (flying true (.p2 ⟨0, 0, 0, 0, 0, 0, 0, 0x01⟩))) (.p3 ⟨0x20, 0, 0, 0, 0, 0, 0, 0⟩) = true := by
  decide
theorem test_rotr3_V13 :
    fliesTo (exec .rotr3 (flying true (.p2 ⟨0x01, 0x23, 0x45, 0x67, 0x89, 0xAB, 0xCD, 0xEF⟩)))
      (.p3 ⟨0xE0, 0x24, 0x68, 0xAC, 0xF1, 0x35, 0x79, 0xBD⟩) = true := by decide
theorem test_subkey_V17 :
    fliesTo (exec .subkey (flying true (.p3 ⟨0, 0, 0, 0, 0, 0, 0, 0⟩)))
      (.plain ⟨0x7C, 0xB9, 0xAA, 0x2A, 0xF9, 0x6D, 0x6D, 0xAA⟩) = true := by decide
theorem test_subkey_V19 :
    fliesTo (exec .subkey (flying true (.p3 ⟨0x83, 0x48, 0x56, 0xD5, 0x07, 0x92, 0x94, 0x00⟩)))
      (.plain ⟨0xFF, 0x01, 0x00, 0xFF, 0x00, 0xFF, 0x01, 0xAA⟩) = true := by decide
theorem test_decode_frame_V20 :
    decodeFrame wired (bytes 0xF42D335999573727) seedV20 true = plainV20 := by decide
theorem test_decode_frame_V23 :
    decodeFrame wired (bytes 0xB9283341EE8F44FF) seedV20 true =
      ⟨0x42, 0x12, 0x69, 0xBD, 0x0D, 0xAA, 0x55, 0xFF⟩ := by decide
theorem test_decode_frame_V24_zero_seed :
    decodeFrame wired (bytes 0xB1A432B6BA9A9C40) zeroFrame true = plainV20 := by decide
theorem test_decode_frame_V29_wrong_seed_bit :
    decodeFrame wired (bytes 0xF42D335999573727) { seedV20 with b7 := 0xEE } true = { plainV20 with b0 := 0x62 } := by
  decide
theorem test_scramble_V20 : w64 (scrambleFrame wired plainV20 seedV20) = 0xF42D335999573727 := by decide

/-! ## The validator (vectors V31 to V42) -/

theorem test_chkmark_V35_one_below :
    fliesTo (exec .chkmark (flying false (.plain { plainV20 with b4 := 0x0C }))) (.marked { plainV20 with b4 := 0x0C } true) =
      true := by decide
theorem test_chkmark_V31 :
    fliesTo (exec .chkmark (flying true (.plain plainV20))) (.marked plainV20 false) = true := by decide
theorem test_chksum_V38_wraps_twice :
    fliesTo (exec .chksum (flying false (.marked ⟨0xFF, 0xFF, 0xFF, 0xFD, 0x0D, 1, 2, 3⟩ false)))
      (.summed ⟨0xFF, 0xFF, 0xFF, 0xFD, 0x0D, 1, 2, 3⟩ false false) = true := by decide
theorem test_chksum_V34_after_bad_marker :
    fliesTo (exec .chksum (flying false (.marked ⟨0x42, 0x10, 0, 0x53, 0, 0, 0, 0⟩ true)))
      (.summed ⟨0x42, 0x10, 0, 0x53, 0, 0, 0, 0⟩ true true) = true := by decide
theorem test_validate_V34_both_fail :
    fliesTo (exec .validate (flying false (.summed ⟨0x42, 0x10, 0, 0x53, 0, 0, 0, 0⟩ true true)))
      (.judged ⟨0x42, 0x10, 0, 0x53, 0, 0, 0, 0⟩ { em := true, ec := true, verdict := .badMarker }) = true := by decide
theorem test_validate_V33_from_plain :
    fliesTo (exec .validate (flying false (.plain ⟨0x42, 0x10, 1, 0x52, 0x0D, 0, 0, 0⟩)))
      (.judged ⟨0x42, 0x10, 1, 0x52, 0x0D, 0, 0, 0⟩ { em := false, ec := true, verdict := .badChecksum }) = true := by
  decide

/-! ## The extractor (vectors V43 to V57) -/

theorem test_extract_V51_limit :
    goesTo (exec .extract (judged ⟨0x50, 0x0B, 0xB8, 0x13, 0x0D, 0, 0, 0⟩)) (fun t => t.flight ==
      some (.extracted ⟨0x50, 0x0B, 0xB8, 0x13, 0x0D, 0, 0, 0⟩ { em := false, ec := false, verdict := .ok }
        { kind := .co2, code := 0x50, word := 0x0BB8, tempE4 := 0, co2Ppm := 3000 })) = true := by decide
theorem test_meas_temp_V46_last_negative : (measureTemp wired 0x1112).tempE4.toInt = -250 := by decide
theorem test_meas_temp_V45_highest :
    fliesTo (exec (.measTemp 0xFFFF) (judged plainV20))
      (.measured plainV20 { em := false, ec := false, verdict := .ok }
        { kind := .temp, tempE4 := 38227875, co2Ppm := 0 }) = true := by decide
theorem test_meas_co2_V52_discarded :
    fliesTo (exec (.measCo2 0x0BB9) (judged ⟨0x50, 0x0B, 0xB9, 0x14, 0x0D, 0, 0, 0⟩))
      (.measured ⟨0x50, 0x0B, 0xB9, 0x14, 0x0D, 0, 0, 0⟩ { em := false, ec := false, verdict := .ok }
        { kind := .none, tempE4 := 0, co2Ppm := 0 }) = true := by decide
theorem test_meas_other_V55 :
    fliesTo (exec (.measOther 0x41 0x0064) (judged ⟨0x41, 0, 0x64, 0xA5, 0x0D, 0, 0, 0⟩))
      (.measured ⟨0x41, 0, 0x64, 0xA5, 0x0D, 0, 0, 0⟩ { em := false, ec := false, verdict := .ok }
        { kind := .none, tempE4 := 0, co2Ppm := 0 }) = true := by decide

/-! ## The transactions: scenarios S1 to S5, the examples of the rules, programs 3 to 7 -/

/-- The source's five scenarios on pass-through frames (spec/95_test_vectors.md section 1.1). -/
theorem test_frame_source_scenarios :
    shows (exec (.frame 0x421000520D000000) (ready false)) plainV20 false false
      { kind := .temp, code := 0x42, word := 0x1000, tempE4 := 0xFFFD6214, co2Ppm := 0 } = true ∧
    shows (exec (.frame 0x500190E10D000000) (ready false)) ⟨0x50, 0x01, 0x90, 0xE1, 0x0D, 0, 0, 0⟩ false false
      { kind := .co2, code := 0x50, word := 0x0190, tempE4 := 0, co2Ppm := 400 } = true ∧
    shows (exec (.frame 0x500DAC090D000000) (ready false)) ⟨0x50, 0x0D, 0xAC, 0x09, 0x0D, 0, 0, 0⟩ false false
      { kind := .none, code := 0x50, word := 0x0DAC, tempE4 := 0, co2Ppm := 0 } = true ∧
    ends (exec (.frame 0x4210005200000000) (ready false)) .faulted .badMarker (.fault .badMarker) = true ∧
    ends (exec (.frame 0x421001520D000000) (ready false)) .faulted .badChecksum (.fault .badChecksum) = true := by decide
theorem test_frame_program5_both_fail :
    shows (exec (.frame 0x421000520D000000) ((ready true).configure zeroFrame true))
      ⟨0xBC, 0xBA, 0x52, 0x6A, 0xFB, 0x6D, 0x6D, 0xB4⟩ true true Extracted.cleared = true := by decide
theorem test_cfg_program2 :
    goesTo (exec (.cfg true 0x0123456789ABCDEF) State.reset)
      (fun t => t.seed == seedV20 && t.scr == true && t.mode == .ready) = true := by decide
theorem test_cfg_program6_keeps_seed :
    goesTo (exec (.cfg true 0) (ready false)) (fun t => t.seed == seedV20 && t.scr == false) = true := by decide
theorem test_reset_leaves_faulted : ends (exec .reset faulted) .unconf .none .done = true := by decide

/-- V60 to V65, MODE = UNCONF. -/
theorem test_mode_table_unconf :
    ends (exec .reset State.reset) .unconf .none .done = true ∧
    ends (exec .nop State.reset) .unconf .none .done = true ∧
    ends (exec (.cfg false 0) State.reset) .ready .none .done = true ∧
    ends (exec (.frame 0x421000520D000000) State.reset) .faulted .notConfigured (.fault .notConfigured) = true ∧
    ends (exec (.frame 0x421001520D000000) State.reset) .faulted .notConfigured (.fault .notConfigured) = true ∧
    ends (exec .rsvd3 State.reset) .faulted .illegalOp (.fault .illegalOp) = true := by decide

/-- V66 to V71, MODE = READY. -/
theorem test_mode_table_ready :
    ends (exec .reset (ready false)) .unconf .none .done = true ∧
    ends (exec .nop (ready false)) .ready .none .done = true ∧
    ends (exec (.cfg false 0) (ready false)) .faulted .cfgLocked (.fault .cfgLocked) = true ∧
    ends (exec (.frame 0x421000520D000000) (ready false)) .ready .none .done = true ∧
    ends (exec (.frame 0x421001520D000000) (ready false)) .faulted .badChecksum (.fault .badChecksum) = true ∧
    ends (exec .rsvd3 (ready false)) .faulted .illegalOp (.fault .illegalOp) = true := by decide

/-- V72 to V77, MODE = FAULTED. -/
theorem test_mode_table_faulted :
    ends (exec .nop faulted) .faulted .badChecksum .ignored = true ∧
    ends (exec (.cfg false 0) faulted) .faulted .badChecksum .ignored = true ∧
    ends (exec (.frame 0x421000520D000000) faulted) .faulted .badChecksum .ignored = true ∧
    ends (exec (.frame 0x421001520D000000) faulted) .faulted .badChecksum .ignored = true ∧
    ends (exec .rsvd3 faulted) .faulted .badChecksum .ignored = true := by decide

/-- A read goes through the address map; an address with no register reads as nothing (R36). -/
theorem test_read_through_map :
    (ready false).readAt (fun r => match r with | .mode => 4 | _ => 0) 4 = some ⟨.mode, (1 : BitVec 2)⟩ ∧
    ((ready false).readAt (fun _ => 0) 1).isNone = true := by decide

/-- The host's numbers for MODE, FCAUSE and KIND (spec/10_state.md R12, R15, R18; vectors V63, V68, V71, V43, V49). -/
theorem test_host_reads_numbers :
    goesTo (exec (.cfg false 0) (ready false)) (fun t => t.readOutput .mode == 2#2 && t.readOutput .fcause == 4#3) = true ∧
    goesTo (exec .rsvd3 (ready false)) (fun t => t.readOutput .fcause == 5#3) = true ∧
    goesTo (exec (.frame 0) State.reset) (fun t => t.readOutput .fcause == 3#3) = true ∧
    goesTo (exec (.frame 0x421000520D000000) (ready false))
      (fun t => t.readOutput .mode == 1#2 && t.readOutput .kind == 1#2) = true ∧
    goesTo (exec (.frame 0x500190E10D000000) (ready false)) (fun t => t.readOutput .kind == 2#2) = true := by decide

/-! ## Witnesses: for each statement with hypotheses, values that meet them all -/

theorem test_witness_ResetPutsEveryRegisterAtItsResetValue : faulted.idle ∧ faulted.mode = .faulted := by decide
theorem test_witness_NopLeavesEveryRegisterUnchanged :
    (State.reset.idle ∧ State.reset.good) ∧ ((ready true).idle ∧ (ready true).good) ∧
    (faulted.idle ∧ faulted.mode = .faulted) := by decide
theorem test_witness_CfgInUnconfLoadsSeedAndVariant : State.reset.idle ∧ State.reset.mode = .unconf := by decide
theorem test_witness_CfgInReadyFaultsCfgLocked : (ready false).idle ∧ (ready false).mode = .ready := by decide
theorem test_witness_FrameInUnconfFaultsNotConfigured : State.reset.idle ∧ State.reset.mode = .unconf := by decide
theorem test_witness_ReservedOpFaultsIllegalOp :
    (State.reset.idle ∧ State.reset.good) ∧ (ready false).idle ∧ (ready false).good := by decide
theorem test_witness_FaultedIgnoresEveryCommand : faulted.idle ∧ faulted.mode = .faulted := by decide

/-- A valid and an invalid frame. -/
theorem test_witness_FrameInReadyRunsDecodeValidateExtract :
    ((ready false).idle ∧ (ready false).mode = .ready) ∧ (validate plainV20).verdict = .ok ∧
    (validate { plainV20 with b4 := 0x0C }).verdict = .badMarker ∧
    (validate { plainV20 with b3 := 0x53 }).verdict = .badChecksum := by decide

/-- The hypotheses of ValidFrameInReadyReportsItsMeasurement. -/
def validFrameHyps (s : State) (data : BitVec 64) (p : Frame) : Bool :=
  decide (s.idle ∧ s.mode = .ready ∧ p = decodeFrame wired (bytes data) s.seed s.scr ∧ p.b4 = 0x0D ∧
    (p.b0.toNat + p.b1.toNat + p.b2.toNat) % 256 = p.b3.toNat)

/-- A temperature, the CO2 limit, one above it, another code: one witness for each clause. -/
theorem test_witness_ValidFrameInReadyReportsItsMeasurement :
    validFrameHyps (ready true) 0xF42D335999573727 plainV20 = true ∧
    validFrameHyps (ready false) 0x500BB8130D000000 ⟨0x50, 0x0B, 0xB8, 0x13, 0x0D, 0, 0, 0⟩ = true ∧
    validFrameHyps (ready false) 0x500BB9140D000000 ⟨0x50, 0x0B, 0xB9, 0x14, 0x0D, 0, 0, 0⟩ = true ∧
    validFrameHyps (ready false) 0x410064A50D000000 ⟨0x41, 0, 0x64, 0xA5, 0x0D, 0, 0, 0⟩ = true := by decide

/-- The hypotheses of InvalidFrameInReadyFaults. -/
def invalidFrameHyps (s : State) (data : BitVec 64) (p : Frame) : Bool :=
  decide (s.idle ∧ s.mode = .ready ∧ p = decodeFrame wired (bytes data) s.seed s.scr ∧
    ¬(p.b4 = 0x0D ∧ (p.b0.toNat + p.b1.toNat + p.b2.toNat) % 256 = p.b3.toNat))

/-- Marker alone, checksum alone, both. -/
theorem test_witness_InvalidFrameInReadyFaults :
    invalidFrameHyps (ready false) 0x421000520C000000 { plainV20 with b4 := 0x0C } = true ∧
    invalidFrameHyps (ready false) 0x421000530D000000 { plainV20 with b3 := 0x53 } = true ∧
    invalidFrameHyps (ready false) 0x421000530C000000 { plainV20 with b3 := 0x53, b4 := 0x0C } = true := by decide

theorem test_witness_PassThroughFrameIsTheRawFrame :
    (ready false).idle ∧ (ready false).mode = .ready ∧ (ready false).scr = false := by decide
theorem test_witness_DescrambledFrameFollowsTheClosedForm :
    (ready true).idle ∧ (ready true).mode = .ready ∧ (ready true).scr = true ∧
    (7 : Fin 8).val = ((0 : Fin 8).val + 7) % 8 ∧ (6 : Fin 8).val = ((7 : Fin 8).val + 7) % 8 := by decide

/-- The hypotheses of DiscardedFrameIsNoFault. -/
def discardHyps (s : State) (data : BitVec 64) (p : Frame) : Bool :=
  decide (s.idle ∧ s.mode = .ready ∧ s.fcause = .none ∧ p = decodeFrame wired (bytes data) s.seed s.scr ∧
    (validate p).verdict = .ok ∧ p.b0 ≠ 0x42 ∧ (p.b0 = 0x50 → 3000 < 256 * p.b1.toNat + p.b2.toNat))

/-- 3001 under the CO2 code; an unrecognised code. -/
theorem test_witness_DiscardedFrameIsNoFault :
    discardHyps (ready false) 0x500BB9140D000000 ⟨0x50, 0x0B, 0xB9, 0x14, 0x0D, 0, 0, 0⟩ = true ∧
    discardHyps (ready false) 0x000000000D000000 ⟨0, 0, 0, 0, 0x0D, 0, 0, 0⟩ = true := by decide

/-- What the stage statements ask of the state: READY, the SCR, the frame in flight. -/
def stageHyps (s : State) (scr : Bool) (f : Flight) : Bool := decide (s.mode = .ready ∧ s.scr = scr ∧ s.flight = some f)

theorem test_witness_BypassStagePassesTheFrame :
    stageHyps (flying false (.raw plainV20)) false (.raw plainV20) = true := by decide
theorem test_witness_PermStageMovesWholeBytes :
    stageHyps (flying true (.raw plainV20)) true (.raw plainV20) = true := by decide
theorem test_witness_XorStageMeetsTheSeedByteByByte :
    stageHyps (flying true (.p1 plainV20)) true (.p1 plainV20) = true := by decide
theorem test_witness_RotStageRotatesTheWordRightByThree :
    stageHyps (flying true (.p2 plainV20)) true (.p2 plainV20) = true ∧
    (7 : Fin 8).val = ((0 : Fin 8).val + 7) % 8 := by decide
theorem test_witness_SubStageSubtractsTheKeyBytewise :
    stageHyps (flying true (.p3 plainV20)) true (.p3 plainV20) = true := by decide
theorem test_witness_MarkerStageComparesByteFour :
    stageHyps (flying true (.plain plainV20)) true (.plain plainV20) = true := by decide
theorem test_witness_ChecksumStageComparesTheSumModulo256 :
    stageHyps (flying false (.marked plainV20 true)) false (.marked plainV20 true) = true := by decide

/-- The four cases of the two checks, and the plain frame. -/
theorem test_witness_ValidateStageGivesTheVerdictMarkerFirst :
    stageHyps (flying false (.summed plainV20 false false)) false (.summed plainV20 false false) = true ∧
    stageHyps (flying false (.summed plainV20 true false)) false (.summed plainV20 true false) = true ∧
    stageHyps (flying false (.summed plainV20 false true)) false (.summed plainV20 false true) = true ∧
    stageHyps (flying false (.summed plainV20 true true)) false (.summed plainV20 true true) = true ∧
    stageHyps (flying false (.plain plainV20)) false (.plain plainV20) = true := by decide

/-- What the extractor's statements ask of the state: READY and a frame in flight whose verdict is `ok`. -/
def judgedHyps (s : State) (p : Frame) (v : Validation) : Bool :=
  decide (s.mode = .ready ∧ v.verdict = .ok ∧ s.flight = some (.judged p v))

theorem test_witness_TempRowConvertsEveryWordExactly :
    judgedHyps (judged plainV20) plainV20 (validate plainV20) = true := by decide
/-- The two clauses at their boundary: 3000 and 3001. -/
theorem test_witness_Co2RowAcceptsUpToThreeThousand :
    judgedHyps (judged plainV20) plainV20 (validate plainV20) = true ∧
    (0x0BB8 : RawWord).toNat ≤ 3000 ∧ 3000 < (0x0BB9 : RawWord).toNat := by decide
theorem test_witness_OtherRowYieldsNoMeasurement :
    judgedHyps (judged plainV20) plainV20 (validate plainV20) = true := by decide
/-- Each code's clause, and the form after a code-map row. -/
theorem test_witness_ExtractStageReportsCodeWordAndMeasurement :
    judgedHyps (judged plainV20) plainV20 (validate plainV20) = true ∧
    judgedHyps (judged ⟨0x50, 0x0B, 0xB8, 0x13, 0x0D, 0, 0, 0⟩) ⟨0x50, 0x0B, 0xB8, 0x13, 0x0D, 0, 0, 0⟩
      (validate ⟨0x50, 0x0B, 0xB8, 0x13, 0x0D, 0, 0, 0⟩) = true ∧
    judgedHyps (judged ⟨0x50, 0x0B, 0xB9, 0x14, 0x0D, 0, 0, 0⟩) ⟨0x50, 0x0B, 0xB9, 0x14, 0x0D, 0, 0, 0⟩
      (validate ⟨0x50, 0x0B, 0xB9, 0x14, 0x0D, 0, 0, 0⟩) = true ∧
    judgedHyps (judged ⟨0x41, 0, 0x64, 0xA5, 0x0D, 0, 0, 0⟩) ⟨0x41, 0, 0x64, 0xA5, 0x0D, 0, 0, 0⟩
      (validate ⟨0x41, 0, 0x64, 0xA5, 0x0D, 0, 0, 0⟩) = true ∧
    stageHyps (flying false (.measured plainV20 (validate plainV20) measureOther)) false
      (.measured plainV20 (validate plainV20) measureOther) = true := by decide

/-- Every stage and code map row runs somewhere. -/
theorem test_witness_StageRowsWriteNoRegister :
    goesTo (exec .bypass (flying false (.raw plainV20))) (fun _ => true) = true ∧
    goesTo (exec .perm (flying true (.raw plainV20))) (fun _ => true) = true ∧
    goesTo (exec .xorseed (flying true (.p1 plainV20))) (fun _ => true) = true ∧
    goesTo (exec .rotr3 (flying true (.p2 plainV20))) (fun _ => true) = true ∧
    goesTo (exec .subkey (flying true (.p3 plainV20))) (fun _ => true) = true ∧
    goesTo (exec .chkmark (flying true (.plain plainV20))) (fun _ => true) = true ∧
    goesTo (exec .chksum (flying true (.marked plainV20 false))) (fun _ => true) = true ∧
    goesTo (exec .validate (flying true (.summed plainV20 false false))) (fun _ => true) = true ∧
    goesTo (exec .extract (judged plainV20)) (fun _ => true) = true ∧
    goesTo (exec (.measTemp 0) (judged plainV20)) (fun _ => true) = true ∧
    goesTo (exec (.measCo2 0) (judged plainV20)) (fun _ => true) = true ∧
    goesTo (exec (.measOther 0 0) (judged plainV20)) (fun _ => true) = true := by decide

/-- A transaction with outcome done (CFG in UNCONF, which enters READY, and FRAME and NOP, which keep MODE), one with
ignored, one with a fault. -/
theorem test_witness_TransactionsWriteOnlyTheirRegisters :
    goesTo (exec (.cfg true 0) State.reset) (fun t => t.outcome == some .done) = true ∧
    goesTo (exec .nop (ready false)) (fun t => t.outcome == some .done) = true ∧
    goesTo (exec (.frame 0x421000520D000000) (ready false)) (fun t => t.outcome == some .done) = true ∧
    goesTo (exec (.cfg true 0) faulted) (fun t => t.outcome == some .ignored) = true ∧
    goesTo (exec .rsvd3 (ready false)) (fun t => t.outcome == some (.fault .illegalOp)) = true := by decide

/-- Each of the five causes is raised. -/
theorem test_witness_FaultEntryRecordsModeAndCause :
    goesTo (exec .rsvd3 State.reset) (fun t => t.outcome == some (.fault .illegalOp)) = true ∧
    goesTo (exec (.cfg false 0) (ready true)) (fun t => t.outcome == some (.fault .cfgLocked)) = true ∧
    goesTo (exec (.frame 0) State.reset) (fun t => t.outcome == some (.fault .notConfigured)) = true ∧
    goesTo (exec (.frame 0x421000530C000000) (ready false)) (fun t => t.outcome == some (.fault .badMarker)) = true ∧
    goesTo (exec (.frame 0x421000530D000000) (ready false)) (fun t => t.outcome == some (.fault .badChecksum)) = true := by
  decide

theorem test_witness_FaultIsStickyUntilReset :
    ({ faulted with inputs := [present 0x30123456789ABCDEF] } : State).idle ∧
    ({ faulted with inputs := [present 0x30123456789ABCDEF] } : State).mode = .faulted ∧
    ∀ x ∈ [present 0x30123456789ABCDEF], x.rst = false := by decide

/-- Outside a FRAME; inside one but not READY. -/
theorem test_witness_StageRowsStopOutsideAFrame :
    (Instr.perm.isStage = true ∧ (ready true).idle) ∧
    (Instr.extract.isStage = true ∧ (faulted.setFlight (some (.raw plainV20))).mode ≠ .ready) := by decide
theorem test_witness_OverlappingTransactionStops :
    Instr.reset.isStage = false ∧ (flying true (.raw plainV20)).flight = some (.raw plainV20) := by decide

theorem test_witness_StepRunsTheDecodedInstruction :
    decode ({ State.reset with inputs := [present 0x60000000000000000] } : State).fetch = .ok .rsvd3 ∧
    (State.reset.idle ∧ State.reset.inputs = [] ∧ decode State.reset.fetch = .ok .nop) ∧
    decode (flying true (.raw plainV20)).fetch = .ok .perm := by decide

/-- The hypotheses of DecodingFollowsTheTables on a plain frame. -/
def validWord (w : BitVec 64) : Bool :=
  decide (w.extractLsb' 24 8 = 0x0D ∧
    ((w.extractLsb' 56 8).toNat + (w.extractLsb' 48 8).toNat + (w.extractLsb' 40 8).toNat) % 256 =
      (w.extractLsb' 32 8).toNat)

/-- Each op; each row of the code map. -/
theorem test_witness_DecodingFollowsTheTables :
    (0x1FFFFFFFFFFFFFFFF : CommandWord).extractLsb' 65 2 = 0 ∧ (0x30123456789ABCDEF : CommandWord).extractLsb' 65 2 = 1 ∧
    (0x4F42D335999573727 : CommandWord).extractLsb' 65 2 = 2 ∧ (0x60000000000000000 : CommandWord).extractLsb' 65 2 = 3 ∧
    validWord 0x421269BD0DAA55FF = true ∧ validWord 0x500BB9140D000000 = true ∧ validWord 0xFFFFFFFD0D010203 = true := by
  decide

/-- Every constructor has a well-formed instruction. -/
theorem test_witness_DecodeInvertsEncode :
    ∀ i ∈ [Instr.reset, .nop, .cfg true 1, .frame 1, .rsvd3, .bypass, .perm, .xorseed, .rotr3, .subkey, .chkmark, .chksum,
      .validate, .extract, .measTemp 0xFFFF, .measCo2 0xFFFF, .measOther 0x41 0xFFFF], i.wellFormed = true := by decide

theorem test_witness_EncodeInvertsDecodeUpToIgnoredBits :
    decode (.command 0x30123456789ABCDEF) = .ok (.cfg true 0x0123456789ABCDEF) ∧
    decode (.command 0x5421000520D000000) = .ok (.frame 0x421000520D000000) ∧
    decode (.command 0x1FFFFFFFFFFFFFFFF) = .ok .nop ∧
    decode (.command 0x7FFFFFFFFFFFFFFFF) = .ok .rsvd3 ∧
    decode (.plain 0x421269BD0DAA55FF) = .ok (.measTemp 0x1269) := by decide

/-- An idle state for each clause of the disjunction that speaks of a mode; the others ask only that the state is idle. -/
theorem test_witness_UnusedOperandBitsChangeNothing :
    (faulted.idle ∧ faulted.mode = .faulted) ∧ ((ready true).idle ∧ (ready true).mode = .ready) ∧
    (State.reset.idle ∧ State.reset.mode = .unconf) := by decide
theorem test_witness_ResetInputWinsOverACommand : faulted.idle ∧ (ready true).idle ∧ State.reset.idle := by decide
theorem test_witness_IdlePortRunsNop :
    ((ready true).idle ∧ (ready true).inputs = [] ∧ (ready true).good) ∧
    (faulted.idle ∧ faulted.inputs = [] ∧ faulted.mode = .faulted) := by decide
theorem test_witness_EveryTransactionEndsInOneStep :
    ({ State.reset with inputs := [present 0x4421000520D000000] } : State).idle := by decide

/-- The READY cells with each of the three verdicts; the other cells are `test_mode_table_…`. -/
theorem test_witness_ModeMovesAsTheTableSays :
    (ready false).idle ∧ (Instr.frame 0).isStage = false ∧
    goesTo (exec (.frame 0x421000520D000000) (ready false)) (fun t => t.mode == .ready) = true ∧
    goesTo (exec (.frame 0x421000520C000000) (ready false)) (fun t => t.fcause == .badMarker) = true ∧
    goesTo (exec (.frame 0x421000530D000000) (ready false)) (fun t => t.fcause == .badChecksum) = true := by decide

/-- The invariants hold, and a step is taken, between transactions (from READY) and inside a FRAME in flight. -/
theorem test_witness_EveryStepKeepsTheInvariants :
    (ready true).Inv ∧ goesTo (step (ready true)) (fun _ => true) = true ∧
    (judged plainV20).Inv ∧ goesTo (step (judged plainV20)) (fun _ => true) = true := by
  refine ⟨⟨?_, ?_, ?_, ?_, ?_, ?_, ?_, ?_, ?_⟩, ?_, ⟨?_, ?_, ?_, ?_, ?_, ?_, ?_, ?_, ?_⟩, ?_⟩ <;> decide

theorem test_witness_StageByStageFrameEqualsTheTransaction : (ready true).idle ∧ (ready true).mode = .ready := by decide

/-- A session of an empty port, a NOP and a valid frame. -/
theorem test_witness_WellUsedSessionRaisesNoFault :
    ∀ x ∈ [{ rst := false, cmd := none }, present 0, present 0x4F42D335999573727],
      x.rst = false ∧ ∀ w, x.cmd = some w → decodeCommand w = .nop ∨
        ∃ data, decodeCommand w = .frame data ∧
          (validate (decodeFrame wired (bytes data) (bytes 0x0123456789ABCDEF) true)).verdict = .ok := by
  intro x hx
  rcases List.mem_cons.1 hx with rfl | hx
  · exact ⟨rfl, fun w h => by cases h⟩
  rcases List.mem_cons.1 hx with rfl | hx
  · exact ⟨rfl, fun w h => .inl (by cases h; decide)⟩
  rcases List.mem_singleton.1 hx with rfl
  exact ⟨rfl, fun w h => .inr ⟨0xF42D335999573727, by cases h; decide⟩⟩

/-- Two READY blocks of one configuration, one of which still shows an earlier frame. -/
theorem test_witness_FrameResultsDependOnlyOnFrameSeedAndVariant :
    (ready true).idle ∧ ((ready true).writeResults plainV20 false false (extract wired plainV20)).idle ∧
    (ready true).mode = .ready ∧ ((ready true).writeResults plainV20 false false (extract wired plainV20)).mode = .ready ∧
    ((ready true).writeResults plainV20 false false (extract wired plainV20)).seed = (ready true).seed ∧
    ((ready true).writeResults plainV20 false false (extract wired plainV20)).scr = (ready true).scr := by decide

/-- UNCONF, READY without scrambling, FAULTED in a scrambled session. -/
theorem test_witness_SeedIsNeverSeenUnlessReadyAndScrambled :
    (State.reset.idle ∧ ¬(State.reset.mode = .ready ∧ State.reset.scr = true)) ∧
    ((ready false).idle ∧ ¬((ready false).mode = .ready ∧ (ready false).scr = true)) ∧
    (faulted.idle ∧ faulted.scr = true ∧ ¬(faulted.mode = .ready ∧ faulted.scr = true)) := by decide

theorem test_witness_ValidFrameAndResetAreIdempotent :
    (ready true).mode = .ready ∧
    goesTo (exec (.frame 0xF42D335999573727) (ready true)) (fun t => t.outcome == some .done) = true ∧
    goesTo (exec .reset faulted) (fun _ => true) = true := by decide

/-- The wired permutation, with the least and the greatest rotation amount. -/
theorem test_witness_DescramblerIsBijectiveForAnyConstants :
    Function.Injective wired.perm.get ∧ ({ wired with rotRight := 0 } : Config).rotRight ≤ 64 ∧
    ({ wired with rotRight := 64 } : Config).rotRight ≤ 64 := by decide

theorem test_witness_LastThreeBytesAreIgnoredAndKept :
    (ready false).idle ∧ (ready false).mode = .ready ∧ (ready false).scr = false ∧
    (0x421269BD0DAA55FF : BitVec 64) >>> 24 = (0x421269BD0D000000 : BitVec 64) >>> 24 := by decide

/-- Each mode, each cause, each kind has a state; the faults are those of `test_witness_FaultEntryRecordsModeAndCause`. -/
theorem test_witness_HostReadsTheRecordedFault :
    [State.reset.mode, (ready true).mode, faulted.mode] = [.unconf, .ready, .faulted] ∧
    [Cause.none, .badMarker, .badChecksum, .notConfigured, .cfgLocked, .illegalOp].map
      (fun c => (State.reset.raiseFault c).fcause) =
        [.none, .badMarker, .badChecksum, .notConfigured, .cfgLocked, .illegalOp] ∧
    goesTo (exec (.frame 0x421000520D000000) (ready false)) (fun t => t.kind == .temp) = true ∧
    goesTo (exec (.frame 0x500190E10D000000) (ready false)) (fun t => t.kind == .co2) = true ∧
    goesTo (exec (.frame 0x410064A50D000000) (ready false)) (fun t => t.kind == .none) = true ∧
    goesTo (exec .rsvd3 (ready false)) (fun t => t.outcome == some (.fault .illegalOp)) = true ∧
    (ready false).idle ∧ (ready false).mode = .ready ∧
    (validate (decodeFrame wired (bytes 0x4210005200000000) (ready false).seed (ready false).scr)).verdict =
      .badMarker := by decide

end Sys2Proof.Tests
end

/-! # What the five transactions do, and how a step runs them -/

namespace Sys2Proof.Machine

/-- Everything the transaction `i` can make of the idle state `s`: one constructor per cell of the mode table
(spec/43_transactions.md R96 to R104), with FRAME in READY split by the verdict. -/
inductive TransactionEffect (s : State) : Instr → State → Prop where
  | reset : TransactionEffect s .reset s.resetRegisters
  | ignored {i : Instr} (hi : i.isStage = false) (hr : i ≠ .reset) (hm : s.mode = .faulted) :
      TransactionEffect s i (s.reply .ignored)
  | nop (hm : s.mode ≠ .faulted) : TransactionEffect s .nop (s.reply .done)
  | cfg (flag : Bool) (data : BitVec 64) (hm : s.mode = .unconf) :
      TransactionEffect s (.cfg flag data) ((s.configure (bytes data) flag).reply .done)
  | cfgLocked (flag : Bool) (data : BitVec 64) (hm : s.mode = .ready) :
      TransactionEffect s (.cfg flag data) (s.raiseFault .cfgLocked)
  | frameValid (data : BitVec 64) {p : Frame} (hm : s.mode = .ready)
      (hp : decodeFrame wired (bytes data) s.seed s.scr = p) (hv : (validate p).verdict = .ok) :
      TransactionEffect s (.frame data) (s.endValid p (validate p) (extract wired p))
  | frameInvalid (data : BitVec 64) {p : Frame} (hm : s.mode = .ready)
      (hp : decodeFrame wired (bytes data) s.seed s.scr = p) (hv : (validate p).verdict ≠ .ok) :
      TransactionEffect s (.frame data) (s.endInvalid p (validate p))
  | notConfigured (data : BitVec 64) (hm : s.mode = .unconf) :
      TransactionEffect s (.frame data) (s.raiseFault .notConfigured)
  | illegalOp (hm : s.mode ≠ .faulted) : TransactionEffect s .rsvd3 (s.raiseFault .illegalOp)

/-- FRAME in READY whose decoded frame is valid (R100). -/
theorem State.performFrame_of_ok {s : State} {data : BitVec 64} {p : Frame}
    (hp : decodeFrame wired (bytes data) s.seed s.scr = p) (hv : (validate p).verdict = .ok) :
    s.performFrame data = s.endValid p (validate p) (extract wired p) := by
  subst hp
  simp [State.performFrame, hv]

/-- FRAME in READY whose decoded frame fails a check (R100, R116). -/
theorem State.performFrame_of_not_ok {s : State} {data : BitVec 64} {p : Frame}
    (hp : decodeFrame wired (bytes data) s.seed s.scr = p) (hv : (validate p).verdict ≠ .ok) :
    s.performFrame data = s.endInvalid p (validate p) := by
  subst hp
  simp [State.performFrame, hv]

/-- RESET between transactions (R96). -/
theorem exec_reset_of_idle {s : State} (hs : s.flight = none) : exec .reset s = .next s.resetRegisters :=
  State.transact_of_idle hs _

/-- FRAME in READY, between transactions (R100). -/
theorem exec_frame_of_ready {s : State} (hs : s.flight = none) (hm : s.mode = .ready) (data : BitVec 64) :
    exec (.frame data) s = .next (s.performFrame data) := by
  have h := State.command_of_good hs (by simp [hm])
  simp [exec, execFrame, h, hm]

/-- With a FRAME in flight no transaction is performed (log entry 4). -/
theorem exec_of_flight {i : Instr} {s : State} {f : Flight} (hi : i.isStage = false) (hs : s.flight = some f) :
    exec i s = .fault .overlappingTransaction := by
  cases i with
  | reset | nop | cfg | frame | rsvd3 =>
    simp [exec, execReset, execNop, execCfg, execFrame, execRsvd3, State.command, State.transact_of_flight hs]
  | _ => contradiction

/-- Every transaction but RESET is ignored in FAULTED (R103). -/
theorem exec_of_faulted {i : Instr} {s : State} (hi : i.isStage = false) (hr : i ≠ .reset) (hs : s.flight = none)
    (hm : s.mode = .faulted) : exec i s = .next (s.reply .ignored) := by
  cases i with
  | reset => contradiction
  | nop | cfg | frame | rsvd3 => simp [exec, execNop, execCfg, execFrame, execRsvd3, State.command_of_faulted hs hm]
  | _ => contradiction

/-- In every mode each transaction has a cell of the mode table (R95, R104). -/
theorem exists_transactionEffect {i : Instr} (hi : i.isStage = false) (s : State) : ∃ t, TransactionEffect s i t := by
  by_cases hr : i = .reset
  · subst hr
    exact ⟨_, .reset⟩
  cases hm : s.mode with
  | faulted => exact ⟨_, .ignored hi hr hm⟩
  | unconf =>
    cases i with
    | reset => contradiction
    | nop => exact ⟨_, .nop (by simp [hm])⟩
    | cfg flag data => exact ⟨_, .cfg flag data hm⟩
    | frame data => exact ⟨_, .notConfigured data hm⟩
    | rsvd3 => exact ⟨_, .illegalOp (by simp [hm])⟩
    | _ => contradiction
  | ready =>
    cases i with
    | reset => contradiction
    | nop => exact ⟨_, .nop (by simp [hm])⟩
    | cfg flag data => exact ⟨_, .cfgLocked flag data hm⟩
    | frame data =>
      by_cases hv : (validate (decodeFrame wired (bytes data) s.seed s.scr)).verdict = .ok
      · exact ⟨_, .frameValid data hm rfl hv⟩
      · exact ⟨_, .frameInvalid data hm rfl hv⟩
    | rsvd3 => exact ⟨_, .illegalOp (by simp [hm])⟩
    | _ => contradiction

/-- The cell of the mode table is what `exec` answers between transactions. -/
theorem TransactionEffect.exec_eq {i : Instr} {s t : State} (e : TransactionEffect s i t) (hs : s.flight = none) :
    exec i s = .next t := by
  cases e with
  | reset => exact exec_reset_of_idle hs
  | ignored hi hr hm => exact exec_of_faulted hi hr hs hm
  | nop hm => exact State.command_of_good hs hm fun s => s.reply .done
  | cfg flag data hm => simp [exec, execCfg, State.command_of_good hs, hm]
  | cfgLocked flag data hm => simp [exec, execCfg, State.command_of_good hs, hm]
  | frameValid data hm hp hv => rw [exec_frame_of_ready hs hm, State.performFrame_of_ok hp hv]
  | frameInvalid data hm hp hv => rw [exec_frame_of_ready hs hm, State.performFrame_of_not_ok hp hv]
  | notConfigured data hm => simp [exec, execFrame, State.command_of_good hs, hm]
  | illegalOp hm => exact State.command_of_good hs hm fun s => s.raiseFault .illegalOp

/-- The inversion lemma of the transactions: where one answers a next state, no FRAME was in flight and the state is
the one in its cell of the mode table. -/
theorem transactionEffect_of_exec {i : Instr} {s t : State} (hi : i.isStage = false) (h : exec i s = .next t) :
    s.flight = none ∧ TransactionEffect s i t := by
  cases hs : s.flight with
  | some f => rw [exec_of_flight hi hs] at h; contradiction
  | none =>
    obtain ⟨u, e⟩ := exists_transactionEffect hi s
    obtain rfl : u = t := by simpa [e.exec_eq hs] using h
    exact ⟨rfl, e⟩

section
variable {i : Instr} {s t : State}

/-- A transaction leaves what the host has still to present (R37). -/
theorem TransactionEffect.inputs_eq (e : TransactionEffect s i t) : t.inputs = s.inputs := by
  cases e <;> simp

/-- A transaction is complete when it answers (R37). -/
theorem TransactionEffect.idle (e : TransactionEffect s i t) (hs : s.flight = none) : t.flight = none := by
  cases e <;> simp [hs, State.reset]

/-- Only RESET and CFG write SEED and SCR (R13, R14). -/
theorem TransactionEffect.config_eq (e : TransactionEffect s i t) (hr : i ≠ .reset)
    (hc : ∀ flag data, i ≠ .cfg flag data) : t.seed = s.seed ∧ t.scr = s.scr := by
  cases e with
  | reset => contradiction
  | cfg flag data => exact absurd rfl (hc flag data)
  | _ => simp

/-- Only RESET and FRAME write the eight result registers (R23, R34). -/
theorem TransactionEffect.results_eq (e : TransactionEffect s i t) (hr : i ≠ .reset)
    (hf : ∀ data, i ≠ .frame data) :
    t.plain = s.plain ∧ t.errMarker = s.errMarker ∧ t.errChecksum = s.errChecksum ∧
      t.extractor = s.extractor := by
  cases e with
  | reset => contradiction
  | frameValid data | frameInvalid data => exact absurd rfl (hf data)
  | _ => simp [State.extractor]

/-- FCAUSE changes only with a fault or in RESET (R15). -/
theorem TransactionEffect.fcause_eq (e : TransactionEffect s i t) (hr : i ≠ .reset)
    (hf : ∀ c, t.outcome ≠ some (.fault c)) : t.fcause = s.fcause := by
  cases e with
  | reset => contradiction
  | cfgLocked | frameInvalid | notConfigured | illegalOp => exact absurd rfl (hf _)
  | _ => simp

/-- MODE changes only with a fault, in RESET or in CFG out of UNCONF (R12, R104). -/
theorem TransactionEffect.mode_eq (e : TransactionEffect s i t) (hr : i ≠ .reset)
    (hf : ∀ c, t.outcome ≠ some (.fault c)) (hc : ∀ flag data, i = .cfg flag data → s.mode ≠ .unconf) :
    t.mode = s.mode := by
  cases e with
  | reset => contradiction
  | cfg flag data hm => exact absurd hm (hc flag data rfl)
  | cfgLocked | frameInvalid | notConfigured | illegalOp => exact absurd rfl (hf _)
  | _ => simp

/-- An ignored command changes nothing but the outcome (R103). -/
theorem TransactionEffect.eq_reply_of_ignored (e : TransactionEffect s i t) (ho : t.outcome = some .ignored) :
    t = s.reply .ignored := by
  cases e with
  | ignored => rfl
  | _ => simp at ho

/-- A verdict that is not `ok` names a cause (R78, R110). -/
theorem Verdict.cause_ne_none {v : Verdict} (h : v ≠ .ok) : v.cause ≠ .none := by
  cases v <;> simp_all [Verdict.cause]

/-- Fault entry records the mode and the cause, which is never NONE (R116). -/
theorem TransactionEffect.fault_recorded (e : TransactionEffect s i t) {c : Cause}
    (ho : t.outcome = some (.fault c)) : t.mode = .faulted ∧ t.fcause = c ∧ c ≠ .none := by
  cases e with
  | frameInvalid data hm hp hv =>
    obtain rfl : (validate _).verdict.cause = c := by simpa using ho
    exact ⟨rfl, rfl, Verdict.cause_ne_none hv⟩
  | cfgLocked | notConfigured | illegalOp =>
    obtain rfl : _ = c := by simpa using ho
    exact ⟨rfl, rfl, nofun⟩
  | _ => simp at ho

end

/-- Settles O1: the reset state is the table of R27, and RESET puts it there. -/
theorem resetPutsEveryRegisterAtItsResetValue : Obligations.ResetPutsEveryRegisterAtItsResetValue := by
  have hz : State.reset.allZero := by decide
  exact ⟨⟨rfl, rfl, hz⟩, fun s hs => ⟨_, exec_reset_of_idle hs, rfl, rfl, hz, rfl, rfl, rfl⟩⟩

/-- Settles O28, from the inversion lemma of the transactions, a register group at a time. -/
theorem transactionsWriteOnlyTheirRegisters : Obligations.TransactionsWriteOnlyTheirRegisters := by
  intro i s t hi h
  obtain ⟨hs, e⟩ := transactionEffect_of_exec hi h
  refine ⟨e.inputs_eq, e.idle hs, hs, fun hr =>
    ⟨e.config_eq hr, e.results_eq hr, fun ho => ?_, e.mode_eq hr, fun ho => ?_⟩⟩
  · exact e.fcause_eq hr fun c hc => by simp [hc] at ho
  · rw [e.eq_reply_of_ignored ho]
    exact ⟨rfl, rfl, rfl, rfl, rfl, rfl, rfl, rfl⟩

/-! ## What the host reads -/

section
variable (s : State)

/-! The numbers of spec/10_state.md R12, R15, R17 and R18, one equation per output register. -/

@[simp] theorem State.readOutput_mode : s.readOutput .mode = s.mode.bits := rfl
@[simp] theorem State.readOutput_fcause : s.readOutput .fcause = s.fcause.bits := rfl
@[simp] theorem State.readOutput_plain : s.readOutput .plain = w64 s.plain := rfl
@[simp] theorem State.readOutput_kind : s.readOutput .kind = s.kind.bits := rfl
@[simp] theorem State.readOutput_errMarker : s.readOutput .errMarker = BitVec.ofBool s.errMarker := rfl
@[simp] theorem State.readOutput_errChecksum : s.readOutput .errChecksum = BitVec.ofBool s.errChecksum := rfl

end

/-- A flag is read as 1 exactly when it is set (R17). -/
@[simp] theorem ofBool_eq_one_iff (b : Bool) : BitVec.ofBool b = 1#1 ↔ b = true := by
  cases b <;> decide

/-- The marker flag is set exactly when the verdict is BadMarker (R78). -/
theorem validate_em_iff (p : Frame) : (validate p).em = true ↔ (validate p).verdict = .badMarker := by
  cases h1 : chkmark p <;> cases h2 : chksum p <;> simp [validate, verdictOf, h1, h2]

/-- Settles O54: the encodings of the registers, then fault entry, then FRAME with a wrong marker. -/
theorem hostReadsTheRecordedFault : Obligations.HostReadsTheRecordedFault := by
  refine ⟨fun s => ?_, fun i s t c hi h ho => ?_, fun s data hs hm hv => ?_⟩
  · simp +contextual [Mode.bits, Cause.bits, Kind.bits]
  · obtain ⟨hm, rfl, hn⟩ := (transactionEffect_of_exec hi h).2.fault_recorded ho
    simp +contextual [Mode.bits, Cause.bits, hm, hn]
  · have e : TransactionEffect s (.frame data) _ := .frameInvalid data hm rfl (by simp [hv])
    refine ⟨_, e.exec_eq hs, rfl, ?_, rfl, ?_, rfl⟩
    · simp [hv, Verdict.cause, Cause.bits]
    · simpa [validate_em_iff] using hv

end Sys2Proof.Machine

/-! # The seed and the host -/

namespace Sys2Proof.Machine

/-! ## A step between transactions -/

/-- A command word is a transaction, whatever its op (R51). -/
theorem decodeCommand_isStage (w : CommandWord) : (decodeCommand w).isStage = false := by
  unfold decodeCommand
  split_ifs <;> rfl

/-- The port presents transactions only (spec/30_encoding.md R51, R57). -/
theorem PortSample.decodes_transaction (x : PortSample) : ∃ i, decode x.encoded = .ok i ∧ i.isStage = false := by
  obtain ⟨_ | _, _ | w⟩ := x
  · exact ⟨_, rfl, rfl⟩
  · exact ⟨_, rfl, decodeCommand_isStage w⟩
  · exact ⟨_, rfl, rfl⟩
  · exact ⟨_, rfl, rfl⟩

/-- Between transactions a transaction is fetched, on an idle port NOP (R95, R97). -/
theorem exists_transaction_of_idle {s : State} (hs : s.flight = none) :
    ∃ i, decode s.fetch = .ok i ∧ i.isStage = false := by
  cases hi : s.inputs with
  | nil => exact ⟨_, by rw [State.fetch_of_idle_port hs hi]; rfl, rfl⟩
  | cons x rest => rw [(State.fetch_of_idle hs hi).1]; exact x.decodes_transaction

/-- Between transactions the sample fetched is consumed. -/
theorem State.advance_of_idle {s : State} (hs : s.flight = none) : s.advance = { s with inputs := s.inputs.tail } := by
  simp [State.advance, hs]

/-- Between transactions a step is the transaction fetched. -/
theorem TransactionEffect.step_eq {i : Instr} {s t : State} (hs : s.flight = none) (hd : decode s.fetch = .ok i)
    (e : TransactionEffect s.advance i t) : step s = .next t := by
  have ha : s.advance.flight = none := by rw [State.advance_of_idle hs]; exact hs
  simp [step, hd, e.exec_eq ha, State.retire_of_idle (e.idle ha)]

/-! ## What the seed is used for -/

/-- SEED has a part in what the block does next: a FRAME would be descrambled with it (spec/40_descrambler.md R60). -/
def State.usesSeed (s : State) : Prop := s.mode = .ready ∧ s.scr = true

/-- Where SEED is not used, DECODE gives the same frame with any seed (R60, R61). -/
theorem State.decodeFrame_of_not_usesSeed {s : State} (h : ¬ s.usesSeed) (hm : s.mode = .ready) (raw seed : Frame) :
    decodeFrame wired raw seed s.scr = decodeFrame wired raw s.seed s.scr := by
  have hscr : s.scr = false := by simpa [State.usesSeed, hm] using h
  simp [decodeFrame, hscr]

/-- `s'` is `s`, or it differs from `s` in SEED alone where SEED is not used. -/
inductive SeedHidden (s : State) : State → Prop where
  | same : SeedHidden s s
  | unused (seed : Frame) (h : ¬ s.usesSeed) : SeedHidden s { s with seed := seed }

/-- The host reads no seed (R13, R23). -/
theorem SeedHidden.sameToHost {s s' : State} (h : SeedHidden s s') : s.sameToHost s' := by
  cases h with
  | same => exact ⟨fun _ => rfl, rfl⟩
  | unused => exact ⟨fun r => by cases r <;> rfl, rfl⟩

/-- A transaction out of a state where SEED is not used ends the same for every seed: RESET and CFG overwrite it, every
other one leaves it where it is still not used. -/
theorem TransactionEffect.seed_hidden {i : Instr} {s t : State} (e : TransactionEffect s i t) (h : ¬ s.usesSeed)
    (seed : Frame) : ∃ t', TransactionEffect { s with seed := seed } i t' ∧ SeedHidden t t' := by
  cases e with
  | reset => exact ⟨_, .reset, .same⟩
  | cfg flag data hm => exact ⟨_, .cfg flag data hm, .same⟩
  | ignored hi hr hm => exact ⟨_, .ignored hi hr hm, .unused seed h⟩
  | nop hm => exact ⟨_, .nop hm, .unused seed h⟩
  | cfgLocked flag data hm => exact ⟨_, .cfgLocked flag data hm, .unused seed nofun⟩
  | notConfigured data hm => exact ⟨_, .notConfigured data hm, .unused seed nofun⟩
  | illegalOp hm => exact ⟨_, .illegalOp hm, .unused seed nofun⟩
  | frameValid data hm hp hv =>
    exact ⟨_, .frameValid data hm ((State.decodeFrame_of_not_usesSeed h hm _ _).trans hp) hv, .unused seed h⟩
  | frameInvalid data hm hp hv =>
    exact ⟨_, .frameInvalid data hm ((State.decodeFrame_of_not_usesSeed h hm _ _).trans hp) hv, .unused seed nofun⟩

/-- Steps keep the relation, and between transactions a step is always answered. -/
theorem SeedHidden.step {s s' : State} (h : SeedHidden s s') (hs : s.flight = none) :
    ∃ t t', Machine.step s = .next t ∧ Machine.step s' = .next t' ∧ SeedHidden t t' ∧ t.flight = none := by
  obtain ⟨i, hd, hi⟩ := exists_transaction_of_idle hs
  obtain ⟨t, e⟩ := exists_transactionEffect hi s.advance
  have hstep : Machine.step s = .next t := e.step_eq hs hd
  have hidle : t.flight = none := e.idle (by rw [State.advance_of_idle hs]; exact hs)
  cases h with
  | same => exact ⟨t, t, hstep, hstep, .same, hidle⟩
  | unused seed hu =>
    rw [State.advance_of_idle hs] at e
    obtain ⟨t', e', ht⟩ := e.seed_hidden hu seed
    rw [← State.advance_of_idle (s := { s with seed := seed }) hs] at e'
    exact ⟨t, t', hstep, e'.step_eq hs hd, ht, hidle⟩

/-- After any number of steps the host sees no difference between two related blocks. -/
theorem SeedHidden.run {s s' : State} (h : SeedHidden s s') (hs : s.flight = none) (n : Nat) :
    ∃ t t', Host.Core.run core n s = .next t ∧ Host.Core.run core n s' = .next t' ∧ t.sameToHost t' := by
  induction n generalizing s s' with
  | zero => exact ⟨s, s', rfl, rfl, h.sameToHost⟩
  | succ n ih =>
    obtain ⟨t, t', ht, ht', h', hidle⟩ := h.step hs
    rw [run_succ ht, run_succ ht']
    exact ih h' hidle

/-- Settles O48: the relation holds at the start, every step keeps it, and it hides the seed from the host. -/
theorem seedIsNeverSeenUnlessReadyAndScrambled : Obligations.SeedIsNeverSeenUnlessReadyAndScrambled :=
  fun n _ seed hs hu => (SeedHidden.unused seed hu).run hs n

end Sys2Proof.Machine

/-! # FRAME stage by stage -/

namespace Sys2Proof.Machine

/-! ## Packing -/

/-- The byte of a lane at place `k` of the packed word: its own byte, and 0 at every other place (R32). -/
theorem lane_byte (b : Byte) {i k : Nat} (hi : i < 8) (hk : k < 8) :
    (lane b i >>> (8 * (7 - k))).setWidth 8 = if i = k then b else 0 := by
  split
  · subst i
    ext j hj
    have h : 8 * (7 - k) + j < 64 := by omega
    have h' : j < 64 := by omega
    simp [lane, hj, h, h']
  · ext j hj
    have h : 8 * (7 - k) + j < 8 * (7 - i) ∨ 8 ≤ 8 * (7 - k) + j - 8 * (7 - i) := by omega
    rcases h with h | h
    · simp [lane, h]
    · simp [lane, BitVec.getLsbD_of_ge b _ h]

/-- Packing a frame and unpacking it gives the frame back (spec/20_memory.md R32). -/
@[simp] theorem bytes_w64 (f : Frame) : bytes (w64 f) = f := by
  apply Eight.ext_get
  intro k
  simp only [bytes, w64, Eight.get_ofFn, BitVec.ushiftRight_or_distrib, BitVec.setWidth_or, lane_byte _ _ k.isLt,
    Nat.reduceLT]
  fin_cases k <;> simp [Eight.get]

/-! ## One stage a step -/

/-- Of two settings of the locals the last one counts. -/
@[simp] theorem State.setFlight_setFlight (s : State) (f g : Option Flight) :
    (s.setFlight f).setFlight g = s.setFlight g := rfl

/-- A step with the locals at `f` runs the stage `i` that is selected there, which takes them to `g`, and ends the FRAME
when no stage is left (R24, R25). -/
theorem step_stage {s t : State} {f : Flight} (i : Instr) (g : Flight) (hd : decode (f.encoded s.scr) = .ok i)
    (he : exec i (s.setFlight (some f)) = .next (s.setFlight (some g))) (hr : (s.setFlight (some g)).retire = t) :
    step (s.setFlight (some f)) = .next t := by
  obtain ⟨hfetch, hadvance⟩ := State.fetch_of_flight (s := s.setFlight (some f)) rfl
  simp only [step, hfetch, State.setFlight_scr, hd, hadvance, he, hr]

section
variable {s : State} (hm : s.mode = .ready)
include hm

theorem step_bypass (hc : s.scr = false) (b : Frame) :
    step (s.setFlight (some (.raw b))) = .next (s.setFlight (some (.plain (bypassStage b)))) :=
  step_stage .bypass (.plain (bypassStage b)) (by rw [hc]; rfl) (by simp [exec, execBypass, State.runStage, hm, hc]) rfl

theorem step_perm (hc : s.scr = true) (b : Frame) :
    step (s.setFlight (some (.raw b))) = .next (s.setFlight (some (.p1 (permStage wired b)))) :=
  step_stage .perm (.p1 (permStage wired b)) (by rw [hc]; rfl) (by simp [exec, execPerm, State.runStage, hm, hc]) rfl

theorem step_xorseed (hc : s.scr = true) (b : Frame) :
    step (s.setFlight (some (.p1 b))) = .next (s.setFlight (some (.p2 (xorStage b s.seed)))) :=
  step_stage .xorseed (.p2 (xorStage b s.seed)) (by rw [hc]; rfl)
    (by simp [exec, execXorseed, State.runStage, hm, hc]) rfl

theorem step_rotr3 (hc : s.scr = true) (b : Frame) :
    step (s.setFlight (some (.p2 b))) = .next (s.setFlight (some (.p3 (rotStage wired b)))) :=
  step_stage .rotr3 (.p3 (rotStage wired b)) (by rw [hc]; rfl) (by simp [exec, execRotr3, State.runStage, hm, hc]) rfl

theorem step_subkey (hc : s.scr = true) (b : Frame) :
    step (s.setFlight (some (.p3 b))) = .next (s.setFlight (some (.plain (subStage wired b)))) :=
  step_stage .subkey (.plain (subStage wired b)) (by rw [hc]; rfl)
    (by simp [exec, execSubkey, State.runStage, hm, hc]) rfl

theorem step_chkmark (p : Frame) :
    step (s.setFlight (some (.plain p))) = .next (s.setFlight (some (.marked p (chkmark p)))) :=
  step_stage .chkmark (.marked p (chkmark p)) rfl (by simp [exec, execChkmark, State.runStage, hm]) rfl

theorem step_chksum (p : Frame) (em : Bool) :
    step (s.setFlight (some (.marked p em))) = .next (s.setFlight (some (.summed p em (chksum p)))) :=
  step_stage .chksum (.summed p em (chksum p)) rfl (by simp [exec, execChksum, State.runStage, hm]) rfl

/-- VALIDATE after both checks gives the triple it gives on the plain frame itself; a verdict that is not `ok` ends the
FRAME (R75, R81). -/
theorem step_validate {t : State} (p : Frame) (ht : (s.setFlight (some (.judged p (validate p)))).retire = t) :
    step (s.setFlight (some (.summed p (chkmark p) (chksum p)))) = .next t :=
  step_stage .validate (.judged p (validate p)) rfl (by simp [exec, execValidate, State.runStage, hm, validate]) ht

/-- On a valid plain frame the code selects the code-map row that gives its measurement (R53, R85). -/
theorem exists_codeMapRow {p : Frame} (hv : (validate p).verdict = .ok) :
    ∃ i, decodePlain (w64 p) = .ok i ∧ exec i (s.setFlight (some (.judged p (validate p)))) =
      .next (s.setFlight (some (.measured p (validate p) (measureCode wired (codeOf p) (wordOf p))))) := by
  by_cases hT : codeOf p = wired.codeTemp
  · refine ⟨.measTemp (wordOf p), by simp [decodePlain, hv, hT], ?_⟩
    simp [exec, execMeasTemp, State.runStage, measureCode, hm, hv, hT]
  by_cases hC : codeOf p = wired.codeCo2
  · refine ⟨.measCo2 (wordOf p), by simp [decodePlain, hv, hT, if_pos hC], ?_⟩
    simp [exec, execMeasCo2, State.runStage, measureCode, hm, hv, hT, if_pos hC]
  · refine ⟨.measOther (codeOf p) (wordOf p), by simp [decodePlain, hv, hT, hC], ?_⟩
    simp [exec, execMeasOther, State.runStage, measureCode, hm, hv, hT, hC]

/-- A FRAME whose verdict is `ok` goes on to its measurement. -/
theorem step_codeMap {p : Frame} (hv : (validate p).verdict = .ok) :
    step (s.setFlight (some (.judged p (validate p)))) =
      .next (s.setFlight (some (.measured p (validate p) (measureCode wired (codeOf p) (wordOf p))))) := by
  have hsel : (Flight.judged p (validate p)).encoded s.scr = .plain (w64 p) := by simp [Flight.encoded, hv]
  obtain ⟨i, hd, he⟩ := exists_codeMapRow hm hv
  exact step_stage i _ (by rw [hsel]; exact hd) he rfl

/-- EXTRACT on a valid frame and its measurement is the last stage and ends the FRAME (R85, R100). -/
theorem step_extract (p : Frame) (v : Validation) :
    step (s.setFlight (some (.measured p v (measureCode wired (codeOf p) (wordOf p))))) =
      .next ((s.endValid p v (extract wired p)).setFlight none) :=
  step_stage .extract (.extracted p v (extract wired p)) rfl
    (by simp [exec, execExtract, State.runStage, hm, extract]) rfl

end

/-! ## A FRAME from a place on -/

/-- From the locals `f` the FRAME in flight on the registers of `s` ends in `r` after `n` steps, one stage a step, and
until then only the locals move. -/
inductive FrameEnds (s r : State) : Flight → Nat → Prop where
  | last {f : Flight} (h : step (s.setFlight (some f)) = .next r) : FrameEnds s r f 1
  | stage {f g : Flight} {n : Nat} (h : step (s.setFlight (some f)) = .next (s.setFlight (some g)))
      (hg : FrameEnds s r g n) : FrameEnds s r f (n + 1)

section
variable {s r : State} {f : Flight} {n : Nat}

/-- The run that such a FRAME makes ends in `r`. -/
theorem FrameEnds.run_eq (h : FrameEnds s r f n) : Host.Core.run core n (s.setFlight (some f)) = .next r := by
  induction h with
  | last h => exact run_succ h 0
  | stage h _ ih => rw [run_succ h, ih]

/-- Every state reached before the end is `s` with some locals in flight. -/
theorem FrameEnds.in_flight (h : FrameEnds s r f n) {k : Nat} {t : State} (hk : k < n)
    (ht : Host.Core.run core k (s.setFlight (some f)) = .next t) : ∃ g, t = s.setFlight (some g) := by
  induction h generalizing k with
  | last =>
    obtain rfl : k = 0 := by omega
    cases ht
    exact ⟨_, rfl⟩
  | stage h _ ih =>
    cases k with
    | zero => cases ht; exact ⟨_, rfl⟩
    | succ k => rw [run_succ h] at ht; exact ih (by omega) ht

end

/-- A state between transactions has no locals to clear. -/
theorem State.setFlight_none_of_idle {s : State} (hs : s.flight = none) : s.setFlight none = s := by
  rw [← hs]; rfl

section
variable {s r : State} (hm : s.mode = .ready) {n : Nat}
include hm

/-- Without scrambling the one descrambler stage is BYPASS (R60, R61). -/
theorem FrameEnds.of_bypass {b : Frame} (hc : s.scr = false)
    (h : FrameEnds s r (.plain (decodeFrame wired b s.seed s.scr)) n) : FrameEnds s r (.raw b) (n + 1) := by
  have hp : decodeFrame wired b s.seed s.scr = bypassStage b := by simp [decodeFrame, hc]
  rw [hp] at h
  exact .stage (step_bypass hm hc b) h

/-- With scrambling the four stages give what DECODE gives (R60, R67). -/
theorem FrameEnds.of_descrambler {b : Frame} (hc : s.scr = true)
    (h : FrameEnds s r (.plain (decodeFrame wired b s.seed s.scr)) n) : FrameEnds s r (.raw b) (n + 4) := by
  have hp : decodeFrame wired b s.seed s.scr =
      subStage wired (rotStage wired (xorStage (permStage wired b) s.seed)) := by simp [decodeFrame, hc]
  rw [hp] at h
  exact .stage (step_perm hm hc _) (.stage (step_xorseed hm hc _) (.stage (step_rotr3 hm hc _)
    (.stage (step_subkey hm hc _) h)))

/-- The checks alone run on a frame that is not valid (R81, R100). -/
theorem FrameEnds.of_invalid (hs : s.flight = none) {p : Frame} (hv : (validate p).verdict ≠ .ok) :
    FrameEnds s (s.endInvalid p (validate p)) (.plain p) 3 := by
  have hlast : (s.setFlight (some (.judged p (validate p)))).retire = s.endInvalid p (validate p) := by
    have h : (s.endInvalid p (validate p)).setFlight none = s.endInvalid p (validate p) :=
      State.setFlight_none_of_idle hs
    simp only [State.retire, State.setFlight_flight, if_neg hv]
    exact h
  exact .stage (step_chkmark hm p) (.stage (step_chksum hm p _) (.last (step_validate hm p hlast)))

/-- On a valid frame the checks, the code-map row and EXTRACT run (R81, R85, R100). -/
theorem FrameEnds.of_valid (hs : s.flight = none) {p : Frame} (hv : (validate p).verdict = .ok) :
    FrameEnds s (s.endValid p (validate p) (extract wired p)) (.plain p) 5 := by
  have hgo : (s.setFlight (some (.judged p (validate p)))).retire = s.setFlight (some (.judged p (validate p))) := by
    simp [State.retire, hv]
  have hlast := step_extract hm p (validate p)
  rw [State.setFlight_none_of_idle (s := s.endValid p (validate p) (extract wired p)) hs] at hlast
  exact .stage (step_chkmark hm p) (.stage (step_chksum hm p _) (.stage (step_validate hm p hgo)
    (.stage (step_codeMap hm hv) (.last hlast))))

/-- From the plain frame on, a FRAME ends where the transaction ends. -/
theorem exists_frameEnds_of_plain (hs : s.flight = none) (data : BitVec 64) :
    ∃ n, 0 < n ∧ n ≤ 5 ∧
      FrameEnds s (s.performFrame data) (.plain (decodeFrame wired (bytes data) s.seed s.scr)) n := by
  by_cases hv : (validate (decodeFrame wired (bytes data) s.seed s.scr)).verdict = .ok
  · rw [State.performFrame_of_ok rfl hv]
    exact ⟨5, by decide, by decide, .of_valid hm hs hv⟩
  · rw [State.performFrame_of_not_ok rfl hv]
    exact ⟨3, by decide, by decide, .of_invalid hm hs hv⟩

/-- From the raw frame on, a FRAME ends where the transaction ends. -/
theorem exists_frameEnds_of_raw (hs : s.flight = none) (data : BitVec 64) :
    ∃ n, 0 < n ∧ n ≤ 9 ∧ FrameEnds s (s.performFrame data) (.raw (bytes data)) n := by
  obtain ⟨n, hpos, hle, h⟩ := exists_frameEnds_of_plain hm hs data
  cases hc : s.scr with
  | false => exact ⟨n + 1, by omega, by omega, h.of_bypass hm hc⟩
  | true => exact ⟨n + 4, by omega, by omega, h.of_descrambler hm hc⟩

end

/-- Settles O45: the chain of stages ends where the transaction ends, and before that only the locals have moved. -/
theorem stageByStageFrameEqualsTheTransaction : Obligations.StageByStageFrameEqualsTheTransaction := by
  intro s data hs hm
  obtain ⟨n, hpos, hle, h⟩ := exists_frameEnds_of_raw hm hs data
  refine ⟨n, hpos, hle, h.run_eq.trans (exec_frame_of_ready hs hm data).symm, fun k t hk ht => ?_⟩
  obtain ⟨g, rfl⟩ := h.in_flight hk ht
  exact ⟨nofun, rfl⟩

end Sys2Proof.Machine

/-! # Idempotent transactions, packing, and the stop of an overlapping transaction -/

namespace Sys2Proof.Machine

/-- Settles O32: the five transactions all begin with `State.transact`, which stops with a FRAME in flight. -/
theorem overlappingTransactionStops : Obligations.OverlappingTransactionStops :=
  fun _ _ _ hi hs => exec_of_flight hi hs

/-! ## Performing a transaction again -/

/-- RESET finds again what it leaves: only what the host has still to present is kept (R96). -/
theorem TransactionEffect.reset_again {s t : State} (e : TransactionEffect s .reset t) :
    TransactionEffect t .reset t := by
  cases e with
  | reset => exact .reset
  | ignored _ hr _ => contradiction

/-- A FRAME that ended with `done` finds again what it leaves: MODE, SEED and SCR, from which the results are computed,
are as they were (R35, R100). -/
theorem TransactionEffect.frame_again {s t : State} {data : BitVec 64} (e : TransactionEffect s (.frame data) t)
    (ho : t.outcome = some .done) : TransactionEffect t (.frame data) t := by
  cases e with
  | frameValid _ hm hp hv => exact .frameValid data hm hp hv
  | ignored | frameInvalid | notConfigured => simp at ho

/-- Settles O49: the cell of the mode table for the first performance is also the cell for the second. -/
theorem validFrameAndResetAreIdempotent : Obligations.ValidFrameAndResetAreIdempotent := by
  constructor
  · intro s t data _ h ho
    obtain ⟨hs, e⟩ := transactionEffect_of_exec rfl h
    exact (e.frame_again ho).exec_eq (e.idle hs)
  · intro s t h
    obtain ⟨hs, e⟩ := transactionEffect_of_exec rfl h
    exact e.reset_again.exec_eq (e.idle hs)

/-! ## Bytes and the 64-bit word -/

/-- Byte i of a word is its bits 63-8i down to 56-8i (R32). -/
theorem bytes_get (w : BitVec 64) (i : Fin 8) : (bytes w).get i = w.extractLsb' (56 - 8 * i.val) 8 := by
  have h : 8 * (7 - i.val) = 56 - 8 * i.val := by omega
  ext j hj
  simp [bytes, h]

/-- Every bit of a word stands in one of its bytes. -/
theorem getLsbD_eq_bytes (w : BitVec 64) {j : Nat} (hj : j < 64) :
    w.getLsbD j = ((bytes w).get ⟨7 - j / 8, by omega⟩).getLsbD (j % 8) := by
  have h : 56 - 8 * (7 - j / 8) + j % 8 = j := by omega
  have hlt : j % 8 < 8 := by omega
  simp [bytes_get, h, hlt]

/-- Two words with the same bytes are the same. -/
theorem bytes_injective : Function.Injective bytes := by
  intro w w' h
  apply BitVec.eq_of_getLsbD_eq
  intro j hj
  rw [getLsbD_eq_bytes w hj, getLsbD_eq_bytes w' hj, h]

/-- Unpacking a word and packing its bytes gives the word back (R32). -/
@[simp] theorem w64_bytes (w : BitVec 64) : w64 (bytes w) = w := bytes_injective (bytes_w64 (bytes w))

/-- Settles O53: the host reads PLAIN as the word whose bytes are PLAIN's. -/
theorem bytesAndWordArePackedBigEndian : Obligations.BytesAndWordArePackedBigEndian := by
  refine ⟨bytes_w64, w64_bytes, fun s i => ?_⟩
  rw [State.readOutput_plain, ← bytes_get, bytes_w64]

end Sys2Proof.Machine

/-! # Decoding and encoding -/

namespace Sys2Proof.Machine

/-! ## The fields of a command word -/

@[simp] theorem opField_commandWord (op : BitVec 2) (flag : Bool) (data : BitVec 64) :
    opField (commandWord op flag data) = op := by
  ext i hi
  have h : 65 + i < 67 := by omega
  have hflag : ¬ 65 + i - 64 = 0 := by omega
  have hdata : data.getLsbD (65 + i) = false := BitVec.getLsbD_of_ge _ _ (by omega)
  simp [opField, commandWord, h, hflag, hdata, hi]

@[simp] theorem flagField_commandWord (op : BitVec 2) (flag : Bool) (data : BitVec 64) :
    flagField (commandWord op flag data) = flag := by
  simp [flagField, commandWord]

@[simp] theorem dataField_commandWord (op : BitVec 2) (flag : Bool) (data : BitVec 64) :
    dataField (commandWord op flag data) = data := by
  ext i hi
  simp [dataField, commandWord]

/-- op is bits 66:65 (R50). -/
theorem opField_eq_extractLsb' (w : CommandWord) : opField w = w.extractLsb' 65 2 := by
  ext
  simp [opField]

/-- data is bits 63:0 (R50). -/
theorem dataField_eq_extractLsb' (w : CommandWord) : dataField w = w.extractLsb' 0 64 := by
  ext
  simp [dataField]

/-- A command word is put together from its three fields (R50, R57). -/
theorem commandWord_fields (w : CommandWord) : commandWord (opField w) (flagField w) (dataField w) = w := by
  apply BitVec.eq_of_getLsbD_eq
  intro i hi
  obtain h | rfl | h : i < 64 ∨ i = 64 ∨ 65 ≤ i := by omega
  · have h' : i < 65 := by omega
    simp [commandWord, opField, flagField, dataField, h, hi, h']
  · simp [commandWord, opField, flagField, dataField]
  · have h' : ¬ i < 65 := by omega
    have hle : i ≤ 66 := by omega
    have hne : ¬ i - 64 = 0 := by omega
    simp [commandWord, opField, flagField, dataField, h, hi, h', hle, hne]

/-- Masking a command word masks its three fields. -/
theorem commandWord_and (op op' : BitVec 2) (flag flag' : Bool) (data data' : BitVec 64) :
    commandWord op flag data &&& commandWord op' flag' data' =
      commandWord (op &&& op') (flag && flag') (data &&& data') := by
  have hop (w w' : CommandWord) : opField (w &&& w') = opField w &&& opField w' := by
    simp [opField, BitVec.ushiftRight_and_distrib]
  have hflag (w w' : CommandWord) : flagField (w &&& w') = (flagField w && flagField w') := by simp [flagField]
  have hdata (w w' : CommandWord) : dataField (w &&& w') = dataField w &&& dataField w' := by simp [dataField]
  rw [← commandWord_fields (commandWord op flag data &&& commandWord op' flag' data')]
  simp [hop, hflag, hdata]

/-- The mask of the op field leaves the op alone (R51). -/
theorem commandWord_and_opMask (op : BitVec 2) (flag : Bool) (data : BitVec 64) :
    commandWord op flag data &&& 0x60000000000000000 = commandWord op false 0#64 := by
  have hmask : (0x60000000000000000 : CommandWord) = commandWord (BitVec.allOnes 2) false 0#64 := by decide
  rw [hmask, commandWord_and, BitVec.and_allOnes, Bool.and_false, BitVec.and_zero]

/-- The mask of FRAME's op and data clears the flag (R105). -/
theorem commandWord_frame_and_mask (flag : Bool) (data : BitVec 64) :
    commandWord 2#2 flag data &&& 0x4FFFFFFFFFFFFFFFF = commandWord 2#2 false data := by
  have hmask : (0x4FFFFFFFFFFFFFFFF : CommandWord) = commandWord 2#2 false (BitVec.allOnes 64) := by decide
  rw [hmask, commandWord_and, BitVec.and_self, Bool.and_false, BitVec.and_allOnes]

/-! ## Command words and the transactions they select

One equation per op of the table (R51), whatever the bits the transaction does not use. -/

@[simp] theorem decodeCommand_op0 (flag : Bool) (data : BitVec 64) :
    decodeCommand (commandWord 0#2 flag data) = .nop := by
  simp [decodeCommand]

@[simp] theorem decodeCommand_op1 (flag : Bool) (data : BitVec 64) :
    decodeCommand (commandWord 1#2 flag data) = .cfg flag data := by
  simp [decodeCommand]

@[simp] theorem decodeCommand_op2 (flag : Bool) (data : BitVec 64) :
    decodeCommand (commandWord 2#2 flag data) = .frame data := by
  simp [decodeCommand]

@[simp] theorem decodeCommand_op3 (flag : Bool) (data : BitVec 64) :
    decodeCommand (commandWord 3#2 flag data) = .rsvd3 := by
  simp [decodeCommand]

/-- The command words and the transactions they select: one constructor per op of the table (R51). -/
inductive CommandRow : CommandWord → Instr → Prop where
  | nop (flag : Bool) (data : BitVec 64) : CommandRow (commandWord 0#2 flag data) .nop
  | cfg (flag : Bool) (data : BitVec 64) : CommandRow (commandWord 1#2 flag data) (.cfg flag data)
  | frame (flag : Bool) (data : BitVec 64) : CommandRow (commandWord 2#2 flag data) (.frame data)
  | rsvd3 (flag : Bool) (data : BitVec 64) : CommandRow (commandWord 3#2 flag data) .rsvd3

/-- The inversion lemma of the command words: each one is its fields put together and lies in its op's row. -/
theorem commandRow_decodeCommand (w : CommandWord) : CommandRow w (decodeCommand w) := by
  rw [← commandWord_fields w]
  generalize opField w = op, flagField w = flag, dataField w = data
  obtain rfl | rfl | rfl | rfl : op = 0#2 ∨ op = 1#2 ∨ op = 2#2 ∨ op = 3#2 := by revert op; decide
  · rw [decodeCommand_op0]; exact .nop flag data
  · rw [decodeCommand_op1]; exact .cfg flag data
  · rw [decodeCommand_op2]; exact .frame flag data
  · rw [decodeCommand_op3]; exact .rsvd3 flag data

/-- What a command word decodes to stands in its op's row. -/
theorem commandRow_of_decode {w : CommandWord} {i : Instr} (h : decode (.command w) = .ok i) : CommandRow w i := by
  obtain rfl : decodeCommand w = i := by simpa [decode] using h
  exact commandRow_decodeCommand w

/-! ## The fields of a plain frame -/

@[simp] theorem wordHi_wordOf (p : Frame) : wordHi (wordOf p) = p.b1 := by
  ext i hi
  have h : 8 + i < 16 := by omega
  simp [wordHi, wordOf, Eight.get, h, BitVec.getLsbD_eq_getElem hi]

@[simp] theorem wordLo_wordOf (p : Frame) : wordLo (wordOf p) = p.b2 := by
  ext i hi
  simp [wordLo, wordOf, Eight.get]

@[simp] theorem codeOf_plainFrame (code : Byte) (word : RawWord) : codeOf (plainFrame code word) = code := rfl

@[simp] theorem wordOf_plainFrame (code : Byte) (word : RawWord) : wordOf (plainFrame code word) = word := by
  ext i hi
  by_cases h : i < 8
  · simp [wordOf, plainFrame, wordLo, Eight.get, h, BitVec.getLsbD_eq_getElem hi]
  · have hlt : i - 8 < 8 := by omega
    have hi' : 8 + (i - 8) = i := by omega
    simp [wordOf, plainFrame, wordHi, wordLo, Eight.get, h, hi, hlt, hi']

/-- The verdict is `ok` exactly when byte 4 is the marker and byte 3 the sum of bytes 0 to 2 (R79). -/
theorem validate_ok_iff_bytes (p : Frame) : (validate p).verdict = .ok ↔
    p.get 4 = 0x0D ∧ ((p.get 0).toNat + (p.get 1).toNat + (p.get 2).toNat) % 256 = (p.get 3).toNat := by
  simp [validate_ok_iff, chkmark_eq, chksum_eq, Eight.get]

/-- What the encoder writes passes both checks (R76, R77). -/
theorem validate_plainFrame (code : Byte) (word : RawWord) : (validate (plainFrame code word)).verdict = .ok := by
  rw [validate_ok_iff]
  exact ⟨bne_self_eq_false' _, bne_self_eq_false' _⟩

/-- CODE and WORD determine a valid frame but for its last three bytes (R79). -/
theorem plainFrame_of_valid {p : Frame} (hv : (validate p).verdict = .ok) :
    plainFrame (codeOf p) (wordOf p) = { p with b5 := 0, b6 := 0, b7 := 0 } := by
  obtain ⟨hmark, hsum⟩ := (validate_ok_iff p).mp hv
  have h4 : p.b4 = wired.marker := by simpa [chkmark, wired, Eight.get] using hmark
  have h3 : checksumOf p.b0 p.b1 p.b2 = p.b3 := by simpa [chksum, Eight.get, wired] using hsum
  simp [plainFrame, codeOf, Eight.get, h3, h4]

/-- CODE is bits 63:56 of the packed plain frame (R46). -/
theorem codeOf_bytes (w : BitVec 64) : codeOf (bytes w) = w.extractLsb' 56 8 := bytes_get w 0

/-- WORD is bits 55:40 of the packed plain frame (R46, R54). -/
theorem wordOf_bytes (w : BitVec 64) : wordOf (bytes w) = w.extractLsb' 40 16 := by
  ext i hi
  by_cases h : i < 8
  · simp [wordOf, bytes_get, h]
  · have h' : i - 8 < 8 := by omega
    have hi' : 48 + (i - 8) = 40 + i := by omega
    simp [wordOf, bytes_get, h, h', hi']

/-- Masking a word masks its bytes. -/
theorem bytes_and (w m : BitVec 64) (i : Fin 8) : (bytes (w &&& m)).get i = (bytes w).get i &&& (bytes m).get i := by
  simp [bytes, BitVec.ushiftRight_and_distrib]

/-- The mask of bytes 0 to 4 clears the bytes no check reads (R46). -/
theorem bytes_and_mask (w : BitVec 64) :
    bytes (w &&& 0xFFFFFFFFFF000000) = { bytes w with b5 := 0, b6 := 0, b7 := 0 } := by
  have hmask : bytes 0xFFFFFFFFFF000000 =
      ⟨.allOnes 8, .allOnes 8, .allOnes 8, .allOnes 8, .allOnes 8, 0, 0, 0⟩ := by decide
  apply Eight.ext_get
  intro i
  rw [bytes_and, hmask]
  fin_cases i <;> simp [Eight.get, -BitVec.reduceAllOnes]

/-! ## The code map -/

/-- The row of the code map for a code, with the word as its operand (R53). -/
def codeMapRow (code : Byte) (word : RawWord) : Instr :=
  if code = wired.codeTemp then .measTemp word
  else if code = wired.codeCo2 then .measCo2 word
  else .measOther code word

/-- A valid plain frame selects its code's row of the code map, and another frame selects none (R46, R53, R55). -/
theorem decodePlain_ok_iff {w : BitVec 64} {i : Instr} :
    decodePlain w = .ok i ↔
      (validate (bytes w)).verdict = .ok ∧ codeMapRow (codeOf (bytes w)) (wordOf (bytes w)) = i := by
  unfold decodePlain codeMapRow
  cases hv : (validate (bytes w)).verdict with
  | ok => simp only [hv]; split_ifs <;> simp
  | badMarker | badChecksum => simp [hv]

/-- Every row of the code map is encoded by the plain frame of its code and word. -/
theorem encode_codeMapRow (code : Byte) (word : RawWord) :
    encode (codeMapRow code word) = .plain (w64 (plainFrame code word)) := by
  unfold codeMapRow
  split_ifs with hT hC
  · rw [hT]; rfl
  · rw [hC]; rfl
  · rfl

/-- The code map gives MEAS.OTHER no recognised code (R53). -/
theorem wellFormed_codeMapRow (code : Byte) (word : RawWord) : (codeMapRow code word).wellFormed = true := by
  unfold codeMapRow
  split_ifs with hT hC
  · rfl
  · rfl
  · simp [Instr.wellFormed, hT, hC]

/-- The plain frame the encoder writes for a code and a word decodes to their row of the code map. -/
theorem decode_plainFrame (code : Byte) (word : RawWord) :
    decode (.plain (w64 (plainFrame code word))) = .ok (codeMapRow code word) :=
  decodePlain_ok_iff.mpr (by simp [validate_plainFrame])

/-! ## The statements about the encoding -/

/-- Settles O36, a row of the table at a time: the op's equation for a command word, the code map for a plain frame. -/
theorem decodeInvertsEncode : Obligations.DecodeInvertsEncode := by
  intro i hw
  cases i with
  | nop | cfg | frame | rsvd3 => simp [encode, decode]
  | measTemp word => exact decode_plainFrame wired.codeTemp word
  | measCo2 word => exact decode_plainFrame wired.codeCo2 word
  | measOther code word =>
    obtain ⟨hT, hC⟩ : code ≠ wired.codeTemp ∧ code ≠ wired.codeCo2 := by simpa [Instr.wellFormed] using hw
    have hrow : codeMapRow code word = .measOther code word := by simp [codeMapRow, hT, hC]
    exact (decode_plainFrame code word).trans (congrArg Except.ok hrow)
  | _ => rfl

/-- Settles O35: the fields are the bits of R50, and of R46 in a plain frame that passes both checks. -/
theorem decodingFollowsTheTables : Obligations.DecodingFollowsTheTables := by
  constructor
  · intro w
    obtain ⟨op, flag, data, rfl⟩ : ∃ op flag data, w = commandWord op flag data :=
      ⟨_, _, _, (commandWord_fields w).symm⟩
    have hflag : (commandWord op flag data).getLsbD 64 = flag := flagField_commandWord op flag data
    rw [← opField_eq_extractLsb', ← dataField_eq_extractLsb', opField_commandWord, dataField_commandWord, hflag]
    refine ⟨?_, ?_, ?_, ?_⟩ <;> rintro rfl
    · exact congrArg Except.ok (decodeCommand_op0 flag data)
    · exact congrArg Except.ok (decodeCommand_op1 flag data)
    · exact congrArg Except.ok (decodeCommand_op2 flag data)
    · exact congrArg Except.ok (decodeCommand_op3 flag data)
  · intro w hmark hsum
    have hv : (validate (bytes w)).verdict = .ok := by
      simp only [validate_ok_iff_bytes, bytes_get]
      exact ⟨hmark, hsum⟩
    rw [← codeOf_bytes, ← wordOf_bytes]
    exact decodePlain_ok_iff.mpr ⟨hv, rfl⟩

/-- What decodes is well-formed. -/
theorem wellFormed_of_decode {e : Encoded} {i : Instr} (h : decode e = .ok i) : i.wellFormed = true := by
  cases e with
  | rst => cases h; rfl
  | command w => cases commandRow_of_decode h <;> rfl
  | stage scr place => cases place <;> cases scr <;> cases h <;> rfl
  | plain w =>
    obtain ⟨_, rfl⟩ := decodePlain_ok_iff.mp h
    exact wellFormed_codeMapRow _ _

/-- Encoding what a plain frame decodes to clears its last three bytes (R46). -/
theorem encode_of_decodePlain {w : BitVec 64} {i : Instr} (h : decodePlain w = .ok i) :
    encode i = .plain (w &&& 0xFFFFFFFFFF000000) := by
  obtain ⟨hv, rfl⟩ := decodePlain_ok_iff.mp h
  rw [encode_codeMapRow, plainFrame_of_valid hv, ← bytes_and_mask, w64_bytes]

/-- Settles O37: the command words by their rows, the plain frames by the code map. -/
theorem encodeInvertsDecodeUpToIgnoredBits : Obligations.EncodeInvertsDecodeUpToIgnoredBits := by
  refine ⟨fun _ _ => wellFormed_of_decode, fun w flag data h => ?_, fun w data h => ?_, fun w h => ?_, fun w h => ?_,
    fun _ _ => encode_of_decodePlain⟩
  · cases commandRow_of_decode h; rfl
  · cases commandRow_of_decode h; rw [commandWord_frame_and_mask]; rfl
  · cases commandRow_of_decode h; rw [commandWord_and_opMask]; rfl
  · cases commandRow_of_decode h; rw [commandWord_and_opMask]; rfl

/-- Settles O34, by evaluating the decoder on the words as written. -/
theorem sampleEncodingsDecodeAsTheSpecSays : Obligations.SampleEncodingsDecodeAsTheSpecSays := by
  unfold Obligations.SampleEncodingsDecodeAsTheSpecSays
  decide

/-! ## Stage rows outside a FRAME -/

/-- Settles O31: the twelve rows all begin with `State.runStage`, which stops there. -/
theorem stageRowsStopOutsideAFrame : Obligations.StageRowsStopOutsideAFrame := by
  intro i s hi h
  have stops (c : Bool) (next : Flight → Option Flight) : s.runStage c next = .refused .stageNotSelected :=
    State.runStage_stops (h.symm.imp_right .inr)
  cases i with
  | reset | nop | cfg | frame | rsvd3 => contradiction
  | _ => exact stops _ _

/-! ## The last three bytes of a plain frame -/

/-- BYPASS is the identity on frames (R61). -/
@[simp] theorem bypassStage_eq (f : Frame) : bypassStage f = f := Eight.ext_get fun i => by simp [bypassStage]

/-- Words that agree in bits 63:24 agree in bytes 0 to 4 (R32). -/
theorem bytes_of_shift_eq {w w' : BitVec 64} (h : w' >>> 24 = w >>> 24) :
    bytes w' = { bytes w with b5 := (bytes w').b5, b6 := (bytes w').b6, b7 := (bytes w').b7 } := by
  have hb (k : Nat) : (w' >>> (24 + k)).setWidth 8 = (w >>> (24 + k)).setWidth 8 := by
    rw [BitVec.shiftRight_add, h, BitVec.shiftRight_add]
  exact Eight.ext (hb 32) (hb 24) (hb 16) (hb 8) (hb 0) rfl rfl rfl

/-- Settles O52: the verdict and the extractor's values do not read bytes 5 to 7, so both FRAMEs end in the same cell of
the mode table. -/
theorem lastThreeBytesAreIgnoredAndKept : Obligations.LastThreeBytesAreIgnoredAndKept := by
  intro s data data' hs hm hscr hshift
  have hp (d : BitVec 64) : decodeFrame wired (bytes d) s.seed s.scr = bytes d := by simp [decodeFrame, hscr]
  have hp' := (hp data').trans (bytes_of_shift_eq hshift)
  by_cases hv : (validate (bytes data)).verdict = .ok
  · exact ⟨_, _, (TransactionEffect.frameValid data hm (hp data) hv).exec_eq hs,
      (TransactionEffect.frameValid data' hm hp' hv).exec_eq hs, rfl⟩
  · exact ⟨_, _, (TransactionEffect.frameInvalid data hm (hp data) hv).exec_eq hs,
      (TransactionEffect.frameInvalid data' hm hp' hv).exec_eq hs, rfl⟩

end Sys2Proof.Machine

/-! # The descrambler -/

namespace Sys2Proof.Machine

/-! ## The rotation -/

/-- Bit `k` after the rotation to the right stood `n` places further up, around the end of the word. -/
theorem getLsbD_rotr64 (w : BitVec 64) {n k : Nat} (hn : n ≤ 64) (hk : k < 64) :
    (rotr64 w n).getLsbD k = w.getLsbD ((k + n) % 64) := by
  by_cases h : k + n < 64
  · have hlow : k < 64 - n := by omega
    have hidx : (k + n) % 64 = n + k := by omega
    simp [rotr64, hlow, hidx]
  · have hhigh : w.getLsbD (n + k) = false := BitVec.getLsbD_of_ge _ _ (by omega)
    have hlow : ¬ k < 64 - n := by omega
    have hidx : (k + n) % 64 = k - (64 - n) := by omega
    have hlt : k - (64 - n) < 64 := by omega
    simp [rotr64, hhigh, hlow, hk, hidx, BitVec.getLsbD_eq_getElem hlt]

/-- To the left by `n` is to the right by the rest of the width. -/
theorem rotl64_eq_rotr64 (w : BitVec 64) {n : Nat} (hn : n ≤ 64) : rotl64 w n = rotr64 w (64 - n) := by
  rw [rotl64, rotr64, Nat.sub_sub_self hn, BitVec.or_comm]

/-- Two rotations to the right by the whole width together change nothing. -/
theorem rotr64_rotr64 (w : BitVec 64) {m n : Nat} (h : m + n = 64) : rotr64 (rotr64 w m) n = w := by
  apply BitVec.eq_of_getLsbD_eq
  intro k hk
  have hidx : ((k + n) % 64 + m) % 64 = k := by omega
  rw [getLsbD_rotr64 _ (by omega) hk, getLsbD_rotr64 _ (by omega) (Nat.mod_lt _ (by decide)), hidx]

theorem rotl64_rotr64 (w : BitVec 64) {n : Nat} (hn : n ≤ 64) : rotl64 (rotr64 w n) n = w := by
  rw [rotl64_eq_rotr64 _ hn, rotr64_rotr64 w (by omega)]

theorem rotr64_rotl64 (w : BitVec 64) {n : Nat} (hn : n ≤ 64) : rotr64 (rotl64 w n) n = w := by
  rw [rotl64_eq_rotr64 _ hn, rotr64_rotr64 w (by omega)]

/-- ROTR3 byte by byte: bits 7:3 of byte i move down, and bits 2:0 of the byte before it come in above (R64). -/
theorem get_rotStage (f : Frame) {i j : Fin 8} (hj : j.val = (i.val + 7) % 8) :
    (rotStage wired f).get i = (f.get i >>> 3) ||| (f.get j <<< 5) := by
  obtain ⟨w, rfl⟩ : ∃ w, f = bytes w := ⟨w64 f, (bytes_w64 f).symm⟩
  apply BitVec.eq_of_getLsbD_eq
  intro k hk
  have hrot : ((rotStage wired (bytes w)).get i).getLsbD k = w.getLsbD ((56 - 8 * i.val + k + 3) % 64) := by
    simp only [rotStage, w64_bytes, bytes_get, BitVec.getLsbD_extractLsb', hk, decide_true, Bool.true_and]
    exact getLsbD_rotr64 w (by decide) (by omega)
  rw [hrot]
  by_cases h : k < 5
  · have hidx : (56 - 8 * i.val + k + 3) % 64 = 56 - 8 * i.val + (3 + k) := by omega
    have h3 : 3 + k < 8 := by omega
    simp [bytes_get, h, hidx, h3]
  · have hidx : (56 - 8 * i.val + k + 3) % 64 = 56 - 8 * j.val + (k - 5) := by omega
    have h3 : ¬ 3 + k < 8 := by omega
    simp [bytes_get, h, hk, hidx, h3]

/-! ## The stages and their inverses -/

/-- XORSEED undoes itself with the same seed (R63). -/
@[simp] theorem xorStage_xorStage (f seed : Frame) : xorStage (xorStage f seed) seed = f :=
  Eight.ext_get fun i => by simp [xorStage]

/-- PERM undoes itself when its table does (R52, R62). -/
theorem permStage_permStage {c : Config} (hc : Function.Involutive c.perm.get) (f : Frame) :
    permStage c (permStage c f) = f :=
  Eight.ext_get fun i => by simp [permStage, hc i]

/-- The wired table is an involution (R52). -/
theorem wired_perm_involutive : Function.Involutive wired.perm.get := by
  unfold Function.Involutive
  decide

/-- PERM by a table without repetition is a bijection on frames. -/
theorem permStage_bijective {c : Config} (hc : Function.Injective c.perm.get) :
    Function.Bijective (permStage c) := by
  let e := Equiv.ofBijective c.perm.get (Finite.injective_iff_bijective.mp hc)
  refine Function.bijective_iff_has_inverse.mpr ⟨fun f => Eight.ofFn fun i => f.get (e.symm i),
    fun f => Eight.ext_get fun i => ?_, fun f => Eight.ext_get fun i => ?_⟩
  · have h : c.perm.get (e.symm i) = i := e.apply_symm_apply i
    simp [permStage, h]
  · have h : e.symm (c.perm.get i) = i := e.symm_apply_apply i
    simp [permStage, h]

/-- SUBKEY's inverse: byte i plus `KEY[i]` modulo 256 (R70). -/
def addStage (c : Config) (f : Frame) : Frame := Eight.ofFn fun i => f.get i + (keyOf c).get i

/-- ROTR3's inverse: the packed frame rotated to the left (R70). -/
def rotBackStage (c : Config) (f : Frame) : Frame := bytes (rotl64 (w64 f) c.rotRight)

section
variable (c : Config)

theorem addStage_subStage : Function.LeftInverse (addStage c) (subStage c) :=
  fun f => Eight.ext_get fun i => by simp [addStage, subStage]

theorem subStage_addStage : Function.LeftInverse (subStage c) (addStage c) :=
  fun f => Eight.ext_get fun i => by simp [addStage, subStage]

variable {c} (hn : c.rotRight ≤ 64)
include hn

theorem rotBackStage_rotStage : Function.LeftInverse (rotBackStage c) (rotStage c) :=
  fun f => by simp [rotBackStage, rotStage, rotl64_rotr64 _ hn]

theorem rotStage_rotBackStage : Function.LeftInverse (rotStage c) (rotBackStage c) :=
  fun f => by simp [rotBackStage, rotStage, rotr64_rotl64 _ hn]

end

/-! ## DECODE and SCRAMBLE -/

/-- DECODE with scr = 1 is the four stages in order (R60, R67). -/
theorem decodeFrame_true (c : Config) (raw seed : Frame) :
    decodeFrame c raw seed true = subStage c (rotStage c (xorStage (permStage c raw) seed)) := rfl

/-- SCRAMBLE is the inverses of the four stages in the other order, where PERM is an involution (R70). -/
theorem scrambleFrame_eq (c : Config) (plain seed : Frame) :
    scrambleFrame c plain seed = permStage c (xorStage (rotBackStage c (addStage c plain)) seed) := rfl

section
variable {c : Config} (hn : c.rotRight ≤ 64) (seed f : Frame)
include hn

theorem decodeFrame_scrambleFrame (hc : Function.Involutive c.perm.get) :
    decodeFrame c (scrambleFrame c f seed) seed true = f := by
  rw [decodeFrame_true, scrambleFrame_eq, permStage_permStage hc, xorStage_xorStage, rotStage_rotBackStage hn,
    subStage_addStage]

theorem scrambleFrame_decodeFrame (hc : Function.Involutive c.perm.get) :
    scrambleFrame c (decodeFrame c f seed true) seed = f := by
  rw [decodeFrame_true, scrambleFrame_eq, addStage_subStage, rotBackStage_rotStage hn, xorStage_xorStage,
    permStage_permStage hc]

end

/-- Settles O50: each stage meets its inverse, from the inside out. -/
theorem decodeAndScrambleAreInverse : Obligations.DecodeAndScrambleAreInverse :=
  fun seed f => ⟨decodeFrame_scrambleFrame (by decide) seed f wired_perm_involutive,
    scrambleFrame_decodeFrame (by decide) seed f wired_perm_involutive⟩

/-- Settles O51: each of the four stages is a bijection. -/
theorem descramblerIsBijectiveForAnyConstants : Obligations.DescramblerIsBijectiveForAnyConstants := by
  intro c seed hc hn
  have hxor : Function.Bijective (xorStage · seed) :=
    Function.Involutive.bijective fun f => xorStage_xorStage f seed
  have hrot : Function.Bijective (rotStage c) :=
    Function.bijective_iff_has_inverse.mpr ⟨_, rotBackStage_rotStage hn, rotStage_rotBackStage hn⟩
  have hsub : Function.Bijective (subStage c) :=
    Function.bijective_iff_has_inverse.mpr ⟨_, addStage_subStage c, subStage_addStage c⟩
  exact hsub.comp (hrot.comp (hxor.comp (permStage_bijective hc)))

/-! ## The stages in flight -/

/-- A stage whose condition `c` holds moves the locals on and nothing else (R60 to R65). -/
theorem State.runStage_of_selected {s : State} {c : Bool} {f g : Flight} {next : Flight → Option Flight}
    (hm : s.mode = .ready) (hc : c = true) (hf : s.flight = some f) (hn : next f = some g) :
    s.runStage c next = .next { s with flight := some g } := by
  subst hc
  exact State.runStage_of hm hf hn

/-- Settles O14: BYPASS is the identity on frames. -/
theorem bypassStagePassesTheFrame : Obligations.BypassStagePassesTheFrame := by
  intro s b hm hc hf
  have h : exec .bypass s = .next { s with flight := some (.plain (bypassStage b)) } :=
    State.runStage_of_selected hm (by simp [hc]) hf rfl
  rwa [bypassStage_eq] at h

/-- Settles O15: the literal bytes are the wired table's, and that table is an involution. -/
theorem permStageMovesWholeBytes : Obligations.PermStageMovesWholeBytes :=
  ⟨fun _ _ hm hc hf => State.runStage_of_selected hm hc hf rfl, permStage_permStage wired_perm_involutive⟩

/-- Settles O16: P2 is P1 met with the register SEED. -/
theorem xorStageMeetsTheSeedByteByByte : Obligations.XorStageMeetsTheSeedByteByByte :=
  fun s b hm hc hf => ⟨xorStage b s.seed, State.runStage_of_selected hm hc hf rfl,
    fun i => Eight.get_ofFn _ i, xorStage_xorStage b s.seed⟩

/-- Settles O17: packing undoes the unpacking of the rotated word, and the form byte by byte is `get_rotStage`. -/
theorem rotStageRotatesTheWordRightByThree : Obligations.RotStageRotatesTheWordRightByThree :=
  fun _ b hm hc hf => ⟨rotStage wired b, State.runStage_of_selected hm hc hf rfl, w64_bytes _,
    fun _ _ hj => get_rotStage b hj⟩

/-- KEY as the spec lists it (R49). -/
theorem keyOf_wired : keyOf wired = ⟨0x84, 0x47, 0x56, 0xD6, 0x07, 0x93, 0x93, 0x56⟩ := by decide

/-- SUBKEY byte by byte, with KEY written out (R49, R65). -/
theorem get_subStage (f : Frame) (i : Fin 8) :
    (subStage wired f).get i = f.get i - (⟨0x84, 0x47, 0x56, 0xD6, 0x07, 0x93, 0x93, 0x56⟩ : Frame).get i := by
  rw [← keyOf_wired, subStage, Eight.get_ofFn]

/-- A difference of bytes is the difference of the integers modulo 256. -/
theorem toNat_byte_sub (x y : Byte) : ((x - y).toNat : Int) = (x.toNat - y.toNat : Int) % 256 := by
  have hy := y.isLt
  rw [BitVec.toNat_sub]
  omega

/-- Settles O18: a byte's subtraction is the integers' modulo 256. -/
theorem subStageSubtractsTheKeyBytewise : Obligations.SubStageSubtractsTheKeyBytewise := by
  refine fun _ b hm hc hf => ⟨subStage wired b, State.runStage_of_selected hm hc hf rfl, fun i => ?_⟩
  rw [get_subStage, toNat_byte_sub]

/-! ## The results of a FRAME -/

/-- A performed FRAME leaves in PLAIN the frame that DECODE gives, valid or not (R100). -/
theorem exec_frame_plain {s : State} (hs : s.flight = none) (hm : s.mode = .ready) (data : BitVec 64) :
    ∃ t, exec (.frame data) s = .next t ∧ t.plain = decodeFrame wired (bytes data) s.seed s.scr := by
  refine ⟨_, exec_frame_of_ready hs hm data, ?_⟩
  by_cases hv : (validate (decodeFrame wired (bytes data) s.seed s.scr)).verdict = .ok
  · rw [State.performFrame_of_ok rfl hv]; rfl
  · rw [State.performFrame_of_not_ok rfl hv]; rfl

/-- Settles O11: DECODE is BYPASS, and PLAIN is read as the word the raw frame was taken from. -/
theorem passThroughFrameIsTheRawFrame : Obligations.PassThroughFrameIsTheRawFrame := by
  intro s data hs hm hc
  obtain ⟨t, ht, hp⟩ := exec_frame_plain hs hm data
  refine ⟨t, ht, ?_⟩
  have hraw : t.plain = bytes data := by simp [hp, hc, decodeFrame]
  rw [State.readOutput_plain, hraw, w64_bytes]

/-- Settles O12: the closed form is the four stages read at one byte. -/
theorem descrambledFrameFollowsTheClosedForm : Obligations.DescrambledFrameFollowsTheClosedForm := by
  intro s data hs hm hc
  obtain ⟨t, ht, hp⟩ := exec_frame_plain hs hm data
  refine ⟨t, ht, fun i j hj => ?_⟩
  rw [hp, hc, decodeFrame_true, get_subStage, get_rotStage _ hj]
  simp only [xorStage, permStage, Eight.get_ofFn]

/-- Settles O47: the decoded frame is the same, so both FRAMEs end in the same cell of the mode table. -/
theorem frameResultsDependOnlyOnFrameSeedAndVariant : Obligations.FrameResultsDependOnlyOnFrameSeedAndVariant := by
  intro s s' data hs hs' hm hm' hseed hscr
  have hp' : decodeFrame wired (bytes data) s'.seed s'.scr = decodeFrame wired (bytes data) s.seed s.scr := by
    rw [hseed, hscr]
  by_cases hv : (validate (decodeFrame wired (bytes data) s.seed s.scr)).verdict = .ok
  · refine ⟨_, _, (TransactionEffect.frameValid data hm rfl hv).exec_eq hs,
      (TransactionEffect.frameValid data hm' hp' hv).exec_eq hs', rfl, rfl, rfl, rfl, hm'.trans hm.symm, rfl, ?_⟩
    simp [hm]
  · exact ⟨_, _, (TransactionEffect.frameInvalid data hm rfl hv).exec_eq hs,
      (TransactionEffect.frameInvalid data hm' hp' hv).exec_eq hs', rfl, rfl, rfl, rfl, rfl, rfl, fun _ => rfl⟩

end Sys2Proof.Machine

/-! # The validator and the frame of the stages -/

namespace Sys2Proof.Machine

/-! ## The valid plain frames -/

/-- A plain frame is valid exactly when byte 3 is the checksum of bytes 0 to 2 and byte 4 the marker (R79). -/
theorem validate_ok_iff_determined (p : Frame) :
    (validate p).verdict = .ok ↔ p.b3 = checksumOf p.b0 p.b1 p.b2 ∧ p.b4 = wired.marker := by
  have hmark : chkmark p = false ↔ p.b4 = wired.marker := bne_eq_false_iff_eq
  have hsum : chksum p = false ↔ checksumOf p.b0 p.b1 p.b2 = p.b3 := bne_eq_false_iff_eq
  rw [validate_ok_iff, hmark, hsum, and_comm, eq_comm]

/-- The six bytes of a plain frame that the checks leave free: 0, 1, 2, 5, 6 and 7 (R79). -/
abbrev FreeBytes := Byte × Byte × Byte × Byte × Byte × Byte

/-- The frame with these free bytes and the bytes 3 and 4 the checks ask for (R76, R77). -/
def FreeBytes.complete : FreeBytes → Frame
  | (b0, b1, b2, b5, b6, b7) => ⟨b0, b1, b2, checksumOf b0 b1 b2, wired.marker, b5, b6, b7⟩

theorem FreeBytes.complete_valid (q : FreeBytes) : (validate q.complete).verdict = .ok :=
  (validate_ok_iff_determined q.complete).mpr ⟨rfl, rfl⟩

/-- A valid frame is its six free bytes (R79). -/
def validFrameEquiv : { p : Frame // (validate p).verdict = .ok } ≃ FreeBytes where
  toFun p := (p.1.b0, p.1.b1, p.1.b2, p.1.b5, p.1.b6, p.1.b7)
  invFun q := ⟨q.complete, q.complete_valid⟩
  left_inv := fun ⟨p, hp⟩ => by
    obtain ⟨h3, h4⟩ := (validate_ok_iff_determined p).mp hp
    exact Subtype.ext (Eight.ext rfl rfl rfl h3.symm h4.symm rfl rfl rfl)
  right_inv _ := rfl

theorem card_byte : Nat.card Byte = 2 ^ 8 :=
  (Nat.card_congr BitVec.equivFin.toEquiv).trans (Nat.card_fin _)

/-- Settles O22: the checks determine bytes 3 and 4, so a valid frame is its six free bytes. -/
theorem validityFixesExactlyBytesThreeAndFour : Obligations.ValidityFixesExactlyBytesThreeAndFour := by
  refine ⟨validate_ok_iff_bytes, fun b0 b1 b2 b5 b6 b7 => ?_, ?_⟩
  · refine ⟨(checksumOf b0 b1 b2, wired.marker), (validate_ok_iff_determined _).mpr ⟨rfl, rfl⟩, fun q hq => ?_⟩
    obtain ⟨h3, h4⟩ := (validate_ok_iff_determined _).mp hq
    exact Prod.ext h3 h4
  · rw [Nat.card_congr validFrameEquiv]
    simp only [Nat.card_prod, card_byte, ← pow_add]

/-! ## The twelve stage and code-map rows -/

/-- Every stage and code-map row is a stage of the FRAME in flight, under its own condition (R58). -/
theorem exists_runStage_of_isStage {i : Instr} (hi : i.isStage = true) (s : State) :
    ∃ c next, exec i s = s.runStage c next := by
  cases i with
  | reset | nop | cfg | frame | rsvd3 => contradiction
  | _ => exact ⟨_, _, rfl⟩

/-- Settles O27: a stage that answers a next state has set the locals and nothing else. -/
theorem stageRowsWriteNoRegister : Obligations.StageRowsWriteNoRegister := by
  intro i s t hi h
  obtain ⟨c, next, hrun⟩ := exists_runStage_of_isStage hi s
  obtain ⟨_, _, _, g, _, _, rfl⟩ := State.runStage_next (hrun.symm.trans h)
  rfl

/-! ## The checks in flight -/

/-- Settles O19: the flag CHKMARK computes is the comparison of byte 4. -/
theorem markerStageComparesByteFour : Obligations.MarkerStageComparesByteFour := by
  intro s p hm hf
  rw [← chkmark_eq]
  exact State.runStage_of hm hf rfl

/-- Settles O20: the flag CHKSUM computes is the comparison of the sum, and em is carried along. -/
theorem checksumStageComparesTheSumModulo256 : Obligations.ChecksumStageComparesTheSumModulo256 := by
  intro s p em hm hf
  rw [← chksum_eq]
  exact State.runStage_of hm hf rfl

/-- VALIDATE from the plain frame itself (R75). -/
theorem exec_validate_of_plain {s : State} {p : Frame} (hm : s.mode = .ready) (hf : s.flight = some (.plain p)) :
    exec .validate s = .next (s.setFlight (some (.judged p (validate p)))) :=
  State.runStage_of hm hf rfl

/-- VALIDATE after both checks (R75, R78). -/
theorem exec_validate_of_summed {s : State} {p : Frame} {em ec : Bool} (hm : s.mode = .ready)
    (hf : s.flight = some (.summed p em ec)) :
    exec .validate s = .next (s.setFlight (some (.judged p { em := em, ec := ec, verdict := verdictOf em ec }))) :=
  State.runStage_of hm hf rfl

/-- Settles O21: the verdict is `verdictOf`, case by case, and the plain frame's two flags are the checks' own. -/
theorem validateStageGivesTheVerdictMarkerFirst : Obligations.ValidateStageGivesTheVerdictMarkerFirst := by
  constructor
  · intro s p em ec hm hf
    refine ⟨verdictOf em ec, exec_validate_of_summed hm hf, ?_, ?_, ?_, ?_⟩ <;>
      · rintro rfl rfl
        rfl
  · intro s p hm hf
    rw [← chkmark_eq, ← chksum_eq]
    have hsummed := exec_validate_of_summed (s := s.setFlight (some (.summed p (chkmark p) (chksum p)))) hm rfl
    exact (exec_validate_of_plain hm hf).trans hsummed.symm

end Sys2Proof.Machine

/-! # The extractor -/

namespace Sys2Proof.Machine

/-! ## The code-map rows in flight -/

section
variable {s : State} {p : Frame} {v : Validation} (hm : s.mode = .ready) (hv : v.verdict = .ok)
  (hf : s.flight = some (.judged p v))
include hm hv hf

theorem exec_measTemp_of_judged (word : RawWord) :
    exec (.measTemp word) s = .next (s.setFlight (some (.measured p v (measureTemp wired word)))) :=
  State.runStage_of hm hf (if_pos hv)

theorem exec_measCo2_of_judged (word : RawWord) :
    exec (.measCo2 word) s = .next (s.setFlight (some (.measured p v (measureCo2 wired word)))) :=
  State.runStage_of hm hf (if_pos hv)

theorem exec_measOther_of_judged (code : Byte) (word : RawWord) :
    exec (.measOther code word) s = .next (s.setFlight (some (.measured p v measureOther))) :=
  State.runStage_of hm hf (if_pos hv)

theorem exec_extract_of_judged :
    exec .extract s = .next (s.setFlight (some (.extracted p v (extract wired p)))) :=
  State.runStage_of hm hf (if_pos hv)

end

/-- EXTRACT after a code-map row keeps that row's measurement (R85, R92). -/
theorem exec_extract_of_measured {s : State} {p : Frame} {v : Validation} {m : Measurement} (hm : s.mode = .ready)
    (hf : s.flight = some (.measured p v m)) :
    exec .extract s = .next (s.setFlight (some (.extracted p v (assemble p m)))) :=
  State.runStage_of hm hf rfl

/-! ## The measurements -/

/-- TEMP_E4 in units of 0.0001 degree is word/16 - 273.15 degrees: the scaling loses nothing (R89). -/
theorem tempE4_div_eq {t : Int} {n : Nat} (h : t = (n : Int) * 625 - 2731500) :
    (t : ℚ) / 10000 = (n : ℚ) / 16 - 5463 / 20 := by
  subst h
  push_cast
  ring

theorem measureCo2_of_le {word : RawWord} (h : word.toNat ≤ 3000) :
    measureCo2 wired word = { kind := .co2, tempE4 := 0, co2Ppm := word } := if_pos h

/-- Above 3000 the CO2 row yields what the default row yields (R88, R90). -/
theorem measureCo2_of_gt {word : RawWord} (h : 3000 < word.toNat) : measureCo2 wired word = measureOther :=
  if_neg (Nat.not_le_of_gt h)

/-- The summary of the code map (R92): what it asks of the measurement of a code and a word. -/
def Measurement.FollowsCodeMap (m : Measurement) (code : Byte) (word : RawWord) : Prop :=
  if code = 0x42 then m.kind = .temp ∧ m.tempE4.toInt = (word.toNat : Int) * 625 - 2731500 ∧ m.co2Ppm = 0
  else if code = 0x50 ∧ word.toNat ≤ 3000 then m.kind = .co2 ∧ m.tempE4 = 0 ∧ m.co2Ppm = word
  else m.kind = .none ∧ m.tempE4 = 0 ∧ m.co2Ppm = 0

/-- The dispatch on CODE gives the measurement of the summary (R85, R92). -/
theorem measureCode_followsCodeMap (code : Byte) (word : RawWord) :
    (measureCode wired code word).FollowsCodeMap code word := by
  unfold Measurement.FollowsCodeMap
  by_cases hT : code = 0x42
  · have h : measureCode wired code word = measureTemp wired word := if_pos hT
    rw [if_pos hT, h]
    exact ⟨rfl, measureTemp_toInt word, rfl⟩
  rw [if_neg hT]
  by_cases hC : code = 0x50
  · have h : measureCode wired code word = measureCo2 wired word := (if_neg hT).trans (if_pos hC)
    rw [h]
    by_cases hle : word.toNat ≤ 3000
    · rw [if_pos ⟨hC, hle⟩, measureCo2_of_le hle]
      exact ⟨rfl, rfl, rfl⟩
    · rw [if_neg fun hc => hle hc.2, measureCo2_of_gt (Nat.lt_of_not_le hle)]
      exact ⟨rfl, rfl, rfl⟩
  · have h : measureCode wired code word = measureOther := (if_neg hT).trans (if_neg hC)
    rw [if_neg fun hc => hC hc.1, h]
    exact ⟨rfl, rfl, rfl⟩

/-! ## The extractor's statements -/

/-- Settles O23: the integer form is `measureTemp_toInt`, the degrees are `tempE4_div_eq`. -/
theorem tempRowConvertsEveryWordExactly : Obligations.TempRowConvertsEveryWordExactly :=
  fun _ _ _ word hm hv hf => ⟨(measureTemp wired word).tempE4, exec_measTemp_of_judged hm hv hf word,
    measureTemp_toInt word, tempE4_div_eq (measureTemp_toInt word)⟩

/-- Settles O24: the row compares the word with 3000, unsigned. -/
theorem co2RowAcceptsUpToThreeThousand : Obligations.Co2RowAcceptsUpToThreeThousand :=
  fun _ _ _ word hm hv hf => ⟨measureCo2 wired word, exec_measCo2_of_judged hm hv hf word,
    measureCo2_of_le, measureCo2_of_gt⟩

/-- Settles O25: neither the code nor the word has a part in the default row's measurement. -/
theorem otherRowYieldsNoMeasurement : Obligations.OtherRowYieldsNoMeasurement :=
  fun _ _ _ code word hm hv hf => exec_measOther_of_judged hm hv hf code word

/-- Settles O26: on a judged frame EXTRACT dispatches on the code (`measureCode_followsCodeMap`), after a code-map
row it takes the measurement in flight. -/
theorem extractStageReportsCodeWordAndMeasurement : Obligations.ExtractStageReportsCodeWordAndMeasurement := by
  constructor
  · intro s p v hm hv hf
    exact ⟨extract wired p, exec_extract_of_judged hm hv hf, rfl, wordOf_toNat p,
      measureCode_followsCodeMap (codeOf p) (wordOf p)⟩
  · intro s p v m hm hf
    exact ⟨assemble p m, exec_extract_of_measured hm hf, rfl, wordOf_toNat p, rfl, rfl, rfl⟩

end Sys2Proof.Machine

/-! # The invariants and the steps that keep them -/

namespace Sys2Proof.Machine

/-! ## The invariants of the reachable states -/

section
variable {s t : State}

/-- With nothing to show, KIND is NONE and the measurements are 0 (R107, I9). -/
theorem State.kindAgrees_of_cleared (h : s.extractor = Extracted.cleared) : s.kindAgrees := by
  simp only [State.extractor, Extracted.cleared, Extracted.mk.injEq] at h
  obtain ⟨hk, -, -, ht, hp⟩ := h
  simp [State.kindAgrees, hk, ht, hp]

/-- A measurement that follows the code map agrees with its KIND (R92; R107, I9). -/
theorem State.kindAgrees_of_followsCodeMap
    (h : (Measurement.mk s.kind s.tempE4 s.co2Ppm).FollowsCodeMap s.code s.word) : s.kindAgrees := by
  unfold Measurement.FollowsCodeMap at h
  dsimp only at h
  split_ifs at h with hT hC <;> obtain ⟨hk, ht, hp⟩ := h
  · exact ⟨fun _ => ⟨hT, ht, hp⟩, by simp [hk], by simp [hk]⟩
  · exact ⟨by simp [hk], fun _ => ⟨hC.1, hC.2, hp, ht⟩, by simp [hk]⟩
  · exact ⟨by simp [hk], by simp [hk], fun _ => ⟨ht, hp⟩⟩

/-- EXTRACT's values agree with their KIND (R85; R107, I9). -/
theorem State.kindAgrees_of_extract {p : Frame} (h : s.extractor = extract wired p) : s.kindAgrees := by
  simp only [State.extractor, extract, assemble, Extracted.mk.injEq] at h
  obtain ⟨hk, hc, hw, ht, hp⟩ := h
  apply State.kindAgrees_of_followsCodeMap
  rw [hk, hc, hw, ht, hp]
  exact measureCode_followsCodeMap _ _

/-- The invariants read as a table: what the registers show in each mode and after each cause (R107, I2 to I7). -/
inductive InvRow (s : State) : Prop where
  | unconf (hm : s.mode = .unconf) (hc : s.fcause = .none) (hz : s.allZero)
  | ready (hm : s.mode = .ready) (hc : s.fcause = .none) (hv : s.showsNoFrameOrValidFrame)
  | badFrame (hm : s.mode = .faulted) (hc : s.fcause = .badMarker ∨ s.fcause = .badChecksum)
      (hi : s.showsInvalidFrame)
  | notConfigured (hm : s.mode = .faulted) (hc : s.fcause = .notConfigured) (hz : s.allZero)
  | cfgLocked (hm : s.mode = .faulted) (hc : s.fcause = .cfgLocked) (hv : s.showsNoFrameOrValidFrame)
  | illegalOp (hm : s.mode = .faulted) (hc : s.fcause = .illegalOp) (h : s.allZero ∨ s.showsNoFrameOrValidFrame)

/-- In every row the extractor's registers are cleared or show PLAIN, so KIND agrees with them. -/
theorem InvRow.kindAgrees (h : InvRow s) : s.kindAgrees := by
  have zero (hz : s.allZero) : s.kindAgrees := by
    obtain ⟨-, -, -, -, -, hx⟩ := hz
    exact State.kindAgrees_of_cleared hx
  have valid (hv : s.showsNoFrameOrValidFrame) : s.kindAgrees := by
    obtain ⟨-, -, -, hx⟩ := hv
    exact State.kindAgrees_of_extract hx
  cases h with
  | unconf _ _ hz | notConfigured _ _ hz => exact zero hz
  | ready _ _ hv | cfgLocked _ _ hv => exact valid hv
  | badFrame _ _ hi =>
    obtain ⟨-, -, -, -, hx⟩ := hi
    exact State.kindAgrees_of_cleared hx
  | illegalOp _ _ h => exact h.elim zero valid

/-- A state in a row of the table, whose FRAME in flight is consistent, satisfies the invariants. -/
theorem InvRow.inv (h : InvRow s) (hf : (s.flight.all fun f => s.mode == .ready && f.consistent) = true) : s.Inv := by
  have hkf := And.intro h.kindAgrees hf
  cases h with
  | unconf hm hc h | ready hm hc h | notConfigured hm hc h | cfgLocked hm hc h | illegalOp hm hc h =>
    simpa [State.Inv, hm, hc] using And.intro h hkf
  | badFrame hm hc h => rcases hc with hc | hc <;> simpa [State.Inv, hm, hc] using And.intro h hkf

/-- Settles O43: the reset state is the first row of the table. -/
theorem invariantsHoldAtReset : Obligations.InvariantsHoldAtReset := by
  obtain ⟨⟨hm, hc, hz⟩, -⟩ := resetPutsEveryRegisterAtItsResetValue
  exact InvRow.inv (.unconf hm hc hz) rfl

/-- Setting the locals keeps the invariants of the registers. -/
theorem State.Inv.setFlight (h : s.Inv) {f : Option Flight}
    (hf : (f.all fun f => s.mode == .ready && f.consistent) = true) : (s.setFlight f).Inv := by
  obtain ⟨hcause, hunconf, hready, hframe, hconf, hlocked, hillegal, hkind, -⟩ := h
  exact ⟨hcause, hunconf, hready, hframe, hconf, hlocked, hillegal, hkind, hf⟩

/-- Out of FAULTED no cause is recorded (R107, I2). -/
theorem State.Inv.fcause_of_good (h : s.Inv) (hm : s.good) : s.fcause = .none := h.1.mpr hm

theorem State.Inv.allZero_of_unconf (h : s.Inv) (hm : s.mode = .unconf) : s.allZero := by
  obtain ⟨-, hunconf, -⟩ := h
  exact hunconf hm

theorem State.Inv.shows_of_ready (h : s.Inv) (hm : s.mode = .ready) : s.showsNoFrameOrValidFrame := by
  obtain ⟨-, -, hready, -⟩ := h
  exact hready hm

/-- With a FRAME in flight the block is READY and the locals are consistent. -/
theorem State.Inv.of_flight (h : s.Inv) {f : Flight} (hf : s.flight = some f) :
    s.mode = .ready ∧ f.consistent = true := by
  obtain ⟨-, -, -, -, -, -, -, -, hall⟩ := h
  simpa [hf] using hall

/-- Nothing is in flight: there are no locals to be consistent. -/
theorem State.flight_all_of_idle (hs : s.flight = none) (q : Flight → Bool) : s.flight.all q = true := by simp [hs]

/-- The results of a valid frame satisfy the invariants (I4). -/
theorem State.inv_endValid (hs : s.flight = none) (hm : s.mode = .ready) (hc : s.fcause = .none) {p : Frame}
    (hv : (validate p).verdict = .ok) : (s.endValid p (validate p) (extract wired p)).Inv := by
  obtain ⟨hem, hec⟩ := (validate_ok_iff p).mp hv
  exact InvRow.inv (.ready hm hc ⟨hem, hec, .inr hv, rfl⟩) (State.flight_all_of_idle hs _)

/-- The results of a frame that is not valid satisfy the invariants (I5). -/
theorem State.inv_endInvalid (hs : s.flight = none) {p : Frame} (hv : (validate p).verdict ≠ .ok) :
    (s.endInvalid p (validate p)).Inv := by
  have hflags : (validate p).em = true ∨ (validate p).ec = true := by
    by_contra hno
    exact hv ((validate_ok_iff p).mpr (by simpa [validate] using hno))
  have hcause : (validate p).verdict.cause = .badMarker ↔ (validate p).em = true := by
    rw [validate_em_iff]
    cases (validate p).verdict <;> simp [Verdict.cause]
  have hrow : (validate p).verdict.cause = .badMarker ∨ (validate p).verdict.cause = .badChecksum := by
    cases h : (validate p).verdict with
    | ok => contradiction
    | badMarker => exact .inl rfl
    | badChecksum => exact .inr rfl
  exact InvRow.inv (.badFrame rfl hrow ⟨rfl, rfl, hflags, hcause, rfl⟩) (State.flight_all_of_idle hs _)

/-- Every transaction keeps the invariants, a cell of the mode table at a time (R104, R107). -/
theorem TransactionEffect.inv {i : Instr} (e : TransactionEffect s i t) (hs : s.flight = none) (h : s.Inv) :
    t.Inv := by
  have hidle := State.flight_all_of_idle (e.idle hs)
  cases e with
  | reset => exact invariantsHoldAtReset
  | ignored | nop => exact h
  | cfg flag data hm =>
    have hc : s.fcause = .none := h.fcause_of_good (by simp [hm])
    obtain ⟨-, -, hp, hem, hec, hx⟩ := h.allZero_of_unconf hm
    have hzero : Extracted.cleared = extract wired zeroFrame := by decide
    have hext : s.extractor = extract wired s.plain := by rw [hx, hp, hzero]
    exact InvRow.inv (.ready rfl hc ⟨hem, hec, .inl hp, hext⟩) (hidle _)
  | cfgLocked flag data hm => exact InvRow.inv (.cfgLocked rfl rfl (h.shows_of_ready hm)) (hidle _)
  | frameValid data hm hp hv => exact State.inv_endValid hs hm (h.fcause_of_good (by simp [hm])) hv
  | frameInvalid data hm hp hv => exact State.inv_endInvalid hs hv
  | notConfigured data hm => exact InvRow.inv (.notConfigured rfl rfl (h.allZero_of_unconf hm)) (hidle _)
  | illegalOp hm =>
    have hor : s.allZero ∨ s.showsNoFrameOrValidFrame := by
      cases hmode : s.mode with
      | unconf => exact .inl (h.allZero_of_unconf hmode)
      | ready => exact .inr (h.shows_of_ready hmode)
      | faulted => contradiction
    exact InvRow.inv (.illegalOp rfl rfl hor) (hidle _)

end

/-! ## A step with a FRAME in flight -/

/-- Everything a step with consistent locals in flight can do: another stage is left to run, or the FRAME ends, by its
verdict (R24, R81, R100). -/
inductive StageEffect (s : State) : State → Prop where
  | goesOn (g : Flight) (hg : g.consistent = true) : StageEffect s (s.setFlight (some g))
  | endsValid {p : Frame} (hv : (validate p).verdict = .ok) :
      StageEffect s ((s.endValid p (validate p) (extract wired p)).setFlight none)
  | endsInvalid {p : Frame} (hv : (validate p).verdict ≠ .ok) :
      StageEffect s ((s.endInvalid p (validate p)).setFlight none)

section
variable {s t : State}

/-- A step that answers a next state in the middle of the descrambler found SCR = 1: BYPASS is the only stage of the
other variant (R60, R61). -/
theorem scr_of_step {f : Flight} (hf : decode (f.encoded false) = .error .noStage)
    (h : step (s.setFlight (some f)) = .next t) : s.scr = true := by
  by_contra hc
  have hfetch := (State.fetch_of_flight (s := s.setFlight (some f)) rfl).1
  rw [State.setFlight_scr, Bool.eq_false_of_not_eq_true hc] at hfetch
  simp [step, hfetch, hf] at h

/-- VALIDATE ends a FRAME whose frame is not valid and no other (R81). -/
theorem stageEffect_validate (hm : s.mode = .ready) (p : Frame) :
    ∃ u, step (s.setFlight (some (.summed p (chkmark p) (chksum p)))) = .next u ∧ StageEffect s u := by
  by_cases hv : (validate p).verdict = .ok
  · exact ⟨_, step_validate hm p (by simp [State.retire, hv]),
      .goesOn (.judged p (validate p)) (by simp [Flight.consistent, hv])⟩
  · exact ⟨_, step_validate hm p (by simp [State.retire, hv]; rfl), .endsInvalid hv⟩

/-- The inversion lemma of a step with consistent locals in flight, a place of the chain at a time. -/
theorem stageEffect_of_step {f : Flight} (hm : s.mode = .ready) (hc : f.consistent = true)
    (h : step (s.setFlight (some f)) = .next t) : StageEffect s t := by
  suffices hex : ∃ u, step (s.setFlight (some f)) = .next u ∧ StageEffect s u by
    obtain ⟨u, hu, e⟩ := hex
    rwa [Host.Outcome.next.inj (h.symm.trans hu)]
  cases f with
  | raw b =>
    cases hscr : s.scr with
    | false => exact ⟨_, step_bypass hm hscr b, .goesOn _ rfl⟩
    | true => exact ⟨_, step_perm hm hscr b, .goesOn _ rfl⟩
  | p1 b => exact ⟨_, step_xorseed hm (scr_of_step rfl h) b, .goesOn _ rfl⟩
  | p2 b => exact ⟨_, step_rotr3 hm (scr_of_step rfl h) b, .goesOn _ rfl⟩
  | p3 b => exact ⟨_, step_subkey hm (scr_of_step rfl h) b, .goesOn _ rfl⟩
  | plain p => exact ⟨_, step_chkmark hm p, .goesOn _ (by simp [Flight.consistent])⟩
  | marked p em =>
    obtain rfl : em = chkmark p := by simpa [Flight.consistent] using hc
    exact ⟨_, step_chksum hm p _, .goesOn _ (by simp [Flight.consistent])⟩
  | summed p em ec =>
    obtain ⟨rfl, rfl⟩ : em = chkmark p ∧ ec = chksum p := by simpa [Flight.consistent] using hc
    exact stageEffect_validate hm p
  | judged p v =>
    obtain ⟨rfl, hv⟩ : v = validate p ∧ v.verdict = .ok := by simpa [Flight.consistent] using hc
    exact ⟨_, step_codeMap hm hv, .goesOn _ (by simp [Flight.consistent, hv])⟩
  | measured p v m =>
    obtain ⟨⟨rfl, hv⟩, rfl⟩ : (v = validate p ∧ v.verdict = .ok) ∧ m = measureCode wired (codeOf p) (wordOf p) := by
      simpa [Flight.consistent] using hc
    exact ⟨_, step_extract hm p _, .endsValid hv⟩
  | extracted => contradiction

/-- Every stage keeps the invariants: it leaves consistent locals, or results that the invariants allow (R107). -/
theorem StageEffect.inv (e : StageEffect s t) (hm : s.mode = .ready) (h : s.Inv) : t.Inv := by
  cases e with
  | goesOn g hg => exact h.setFlight (by simp [hm, hg])
  | endsValid hv => exact State.inv_endValid (s := s.setFlight none) rfl hm (h.fcause_of_good (by simp [hm])) hv
  | endsInvalid hv => exact State.inv_endInvalid (s := s.setFlight none) rfl hv

end

/-- Between transactions a step is the effect of some transaction, with one sample consumed (R37, R95). -/
theorem exists_step_of_idle {s : State} (hs : s.flight = none) :
    ∃ i t, TransactionEffect { s with inputs := s.inputs.tail } i t ∧ step s = .next t := by
  obtain ⟨i, hd, hi⟩ := exists_transaction_of_idle hs
  obtain ⟨t, e⟩ := exists_transactionEffect hi s.advance
  exact ⟨i, t, State.advance_of_idle hs ▸ e, e.step_eq hs hd⟩

/-- Settles O44: between transactions by the cells of the mode table, inside a FRAME by the places of the chain. -/
theorem everyStepKeepsTheInvariants : Obligations.EveryStepKeepsTheInvariants := by
  intro s t h hstep
  cases hs : s.flight with
  | none =>
    obtain ⟨i, u, e, hu⟩ := exists_step_of_idle hs
    obtain rfl : u = t := Host.Outcome.next.inj (hu.symm.trans hstep)
    exact e.inv hs h
  | some f =>
    obtain ⟨hm, hc⟩ := h.of_flight hs
    have hf : s.setFlight (some f) = s := by rw [← hs]; rfl
    exact (stageEffect_of_step hm hc (hf ▸ hstep)).inv hm h

end Sys2Proof.Machine

/-! # The transactions and the steps that run them -/

namespace Sys2Proof.Machine

/-! ## The step that runs a transaction -/

section
variable {i : Instr} {s t : State}

/-- Every transaction returns an outcome (R95). -/
theorem TransactionEffect.outcome_ne_none (e : TransactionEffect s i t) : t.outcome ≠ none := by
  cases e <;> simp

/-- The step that runs the sample presented first (R95). -/
theorem TransactionEffect.step_presented {x : PortSample} {rest : List PortSample} (hs : s.flight = none)
    (hd : decode x.encoded = .ok i) (e : TransactionEffect { s with inputs := rest } i t) :
    step { s with inputs := x :: rest } = .next t := by
  obtain ⟨hf, ha⟩ := State.fetch_of_idle (s := { s with inputs := x :: rest }) hs rfl
  exact TransactionEffect.step_eq hs (by rw [hf, hd]) (by rw [ha]; exact e)

/-- An empty port has no sample to consume. -/
theorem State.advance_of_idle_port (hs : s.flight = none) (hi : s.inputs = []) : s.advance = s := by
  rw [State.advance_of_idle hs, hi, List.tail_nil, ← hi]

/-- A step on an idle port is NOP (R97). -/
theorem TransactionEffect.step_idle_port (hs : s.flight = none) (hi : s.inputs = [])
    (e : TransactionEffect s .nop t) : step s = .next t := by
  have hd : decode s.fetch = .ok .nop := by rw [State.fetch_of_idle_port hs hi]; rfl
  exact TransactionEffect.step_eq hs hd (by rwa [State.advance_of_idle_port hs hi])

/-- No command word selects RESET (R51, R106). -/
theorem decodeCommand_ne_reset (w : CommandWord) : decodeCommand w ≠ .reset := by
  have h := commandRow_decodeCommand w
  intro hr
  rw [hr] at h
  contradiction

end

/-- Settles O2: the two cells of NOP, and the word of a NOP and an empty command select the same. -/
theorem nopLeavesEveryRegisterUnchanged : Obligations.NopLeavesEveryRegisterUnchanged := by
  refine ⟨fun s hs => ⟨fun hm => ?_, fun hm => ?_⟩, fun s flag data rest hs => ?_⟩
  · exact (TransactionEffect.nop hm).exec_eq hs
  · exact exec_of_faulted rfl nofun hs hm
  · obtain ⟨t, e⟩ := exists_transactionEffect (i := .nop) rfl { s with inputs := rest }
    have hd : decode (PortSample.encoded { rst := false, cmd := some (commandWord 0 flag data) }) = .ok .nop :=
      congrArg Except.ok (decodeCommand_op0 flag data)
    exact (e.step_presented hs rfl).trans (e.step_presented hs hd).symm

/-- Settles O3: the seed is the data's bytes. -/
theorem cfgInUnconfLoadsSeedAndVariant : Obligations.CfgInUnconfLoadsSeedAndVariant :=
  fun _ flag data hs hm => ⟨bytes data, (TransactionEffect.cfg flag data hm).exec_eq hs, bytes_get data⟩

/-- Settles O4: CFG's cell in READY. -/
theorem cfgInReadyFaultsCfgLocked : Obligations.CfgInReadyFaultsCfgLocked :=
  fun _ flag data hs hm => (TransactionEffect.cfgLocked flag data hm).exec_eq hs

/-- Settles O5: FRAME's cell in UNCONF. -/
theorem frameInUnconfFaultsNotConfigured : Obligations.FrameInUnconfFaultsNotConfigured :=
  fun _ data hs hm => (TransactionEffect.notConfigured data hm).exec_eq hs

/-- Settles O6: RSVD3's cell outside FAULTED. -/
theorem reservedOpFaultsIllegalOp : Obligations.ReservedOpFaultsIllegalOp :=
  fun _ hs hm => (TransactionEffect.illegalOp hm).exec_eq hs

/-- Settles O7: the commands' one cell in FAULTED. -/
theorem faultedIgnoresEveryCommand : Obligations.FaultedIgnoresEveryCommand := by
  intro s flag data hs hm
  have ignored {i : Instr} (hi : i.isStage = false) (hr : i ≠ .reset) :
      exec i s = .next { s with outcome := some .ignored } := exec_of_faulted hi hr hs hm
  exact ⟨ignored rfl nofun, ignored rfl nofun, ignored rfl nofun, ignored rfl nofun⟩

/-! ## FRAME in READY -/

/-- The cause of a frame that is not valid, marker first (R78, R110). -/
theorem Verdict.cause_of_ne_ok {v : Verdict} (h : v ≠ .ok) :
    v.cause = if v = .badMarker then .badMarker else .badChecksum := by
  cases v with
  | ok => contradiction
  | badMarker | badChecksum => rfl

/-- The verdict is BadMarker exactly when byte 4 is not the marker (R76, R78). -/
theorem validate_badMarker_iff (p : Frame) : (validate p).verdict = .badMarker ↔ p.b4 ≠ 0x0D := by
  have hem : (validate p).em = decide (p.b4 ≠ 0x0D) := chkmark_eq p
  rw [← validate_em_iff, hem, decide_eq_true_iff]

/-- Settles O8: FRAME's two cells in READY, by the verdict. -/
theorem frameInReadyRunsDecodeValidateExtract : Obligations.FrameInReadyRunsDecodeValidateExtract := by
  intro s data hs hm
  refine ⟨_, _, _, _, rfl, rfl, rfl, rfl, ?_⟩
  by_cases hv : (validate (decodeFrame wired (bytes data) s.seed s.scr)).verdict = .ok
  · rw [if_pos hv]
    exact (TransactionEffect.frameValid data hm rfl hv).exec_eq hs
  · rw [if_neg hv, ← Verdict.cause_of_ne_ok hv]
    exact (TransactionEffect.frameInvalid data hm rfl hv).exec_eq hs

/-- Settles O9: FRAME's cell in READY for a valid frame, with the code map for its measurement. -/
theorem validFrameInReadyReportsItsMeasurement : Obligations.ValidFrameInReadyReportsItsMeasurement := by
  intro s data p hs hm hp hmark hsum
  have hv : (validate p).verdict = .ok := (validate_ok_iff_bytes p).mpr ⟨hmark, hsum⟩
  obtain ⟨hem, hec⟩ := (validate_ok_iff p).mp hv
  have hval : validate p = { em := false, ec := false, verdict := .ok } := by simp [validate, hem, hec, verdictOf]
  have e := TransactionEffect.frameValid data hm hp.symm hv
  rw [hval] at e
  exact ⟨_, e.exec_eq hs, rfl, wordOf_toNat p, measureCode_followsCodeMap p.b0 (wordOf p)⟩

/-- Settles O10: FRAME's cell in READY for a frame that is not valid, with the flags and the cause by its bytes. -/
theorem invalidFrameInReadyFaults : Obligations.InvalidFrameInReadyFaults := by
  intro s data p hs hm hp hbad
  have hv : (validate p).verdict ≠ .ok := mt (validate_ok_iff_bytes p).mp hbad
  have hcause : (validate p).verdict.cause = if p.b4 = 0x0D then .badChecksum else .badMarker := by
    simp only [Verdict.cause_of_ne_ok hv, validate_badMarker_iff, ne_eq, ite_not]
  rw [← chkmark_eq, ← chksum_eq]
  exact ⟨_, hcause, (TransactionEffect.frameInvalid data hm hp.symm hv).exec_eq hs⟩

/-! ## Steps between transactions -/

/-- Settles O33, from the lemmas that say what is fetched, consumed and retired. -/
theorem stepRunsTheDecodedInstruction : Obligations.StepRunsTheDecodedInstruction := by
  refine ⟨fun s i hd => ?_, fun _ _ _ => State.fetch_of_idle,
    fun _ hs hi => ⟨State.fetch_of_idle_port hs hi, State.advance_of_idle_port hs hi⟩,
    fun _ _ => State.fetch_of_flight, fun _ => State.retire_of_idle⟩
  cases he : exec i s.advance with
  | next | fault | refused => simp only [step, hd, he]

/-- Words that differ in ignored bits select the same transaction, or two with the same cell of the mode table
(R105). -/
theorem exists_common_effect {s : State} {op : BitVec 2} {flag flag' : Bool} {data data' : BitVec 64}
    (h : op = 0#2 ∨ op = 3#2 ∨ (op = 2#2 ∧ data' = data) ∨ s.mode = .faulted ∨ (op = 1#2 ∧ s.mode = .ready) ∨
      (op = 2#2 ∧ s.mode = .unconf)) :
    ∃ t, TransactionEffect s (decodeCommand (commandWord op flag data)) t ∧
      TransactionEffect s (decodeCommand (commandWord op flag' data')) t := by
  have same {w w' : CommandWord} (hw : decodeCommand w = decodeCommand w') :
      ∃ t, TransactionEffect s (decodeCommand w) t ∧ TransactionEffect s (decodeCommand w') t := by
    obtain ⟨t, e⟩ := exists_transactionEffect (decodeCommand_isStage w) s
    exact ⟨t, e, hw ▸ e⟩
  rcases h with rfl | rfl | ⟨rfl, rfl⟩ | hm | ⟨rfl, hm⟩ | ⟨rfl, hm⟩
  · exact same (by simp)
  · exact same (by simp)
  · exact same (by simp)
  · exact ⟨_, .ignored (decodeCommand_isStage _) (decodeCommand_ne_reset _) hm,
      .ignored (decodeCommand_isStage _) (decodeCommand_ne_reset _) hm⟩
  · rw [decodeCommand_op1, decodeCommand_op1]
    exact ⟨_, .cfgLocked flag data hm, .cfgLocked flag' data' hm⟩
  · rw [decodeCommand_op2, decodeCommand_op2]
    exact ⟨_, .notConfigured data hm, .notConfigured data' hm⟩

/-- Settles O38: one step runs either word. -/
theorem unusedOperandBitsChangeNothing : Obligations.UnusedOperandBitsChangeNothing := by
  intro s op flag flag' data data' rest hs h
  obtain ⟨t, e, e'⟩ := exists_common_effect (s := { s with inputs := rest }) (flag := flag) (flag' := flag') h
  exact (e.step_presented hs rfl).trans (e'.step_presented hs rfl).symm

/-- Settles O39: such a sample selects RESET. -/
theorem resetInputWinsOverACommand : Obligations.ResetInputWinsOverACommand :=
  fun _ _ _ hs => TransactionEffect.step_presented hs rfl .reset

/-- Settles O40: the two cells of NOP. -/
theorem idlePortRunsNop : Obligations.IdlePortRunsNop :=
  fun _ hs hi => ⟨fun hm => TransactionEffect.step_idle_port hs hi (.nop hm),
    fun hm => TransactionEffect.step_idle_port hs hi (.ignored rfl nofun hm)⟩

/-- Settles O41: what is fetched is a transaction, and every transaction has a cell in every mode. -/
theorem everyTransactionEndsInOneStep : Obligations.EveryTransactionEndsInOneStep := by
  intro s hs
  obtain ⟨i, t, e, hstep⟩ := exists_step_of_idle hs
  exact ⟨t, hstep, e.idle hs, e.inputs_eq, e.outcome_ne_none⟩

/-- Settles O42, a cell of the mode table at a time. -/
theorem modeMovesAsTheTableSays : Obligations.ModeMovesAsTheTableSays := by
  intro s t i _ hi h
  obtain ⟨hs, e⟩ := transactionEffect_of_exec hi h
  cases e with
  | reset => simp [State.reset]
  | ignored _ hr hm => simp [hr, hm]
  | nop hm => simp [hm]
  | cfg flag data hm => simp [hm]
  | cfgLocked flag data hm => simp [hm]
  | frameValid data hm hp hv => simp [hm, hp, hv]
  | frameInvalid data hm hp hv =>
    cases hverdict : (validate _).verdict with
    | ok => contradiction
    | badMarker | badChecksum => simp [hm, hp, hverdict, Verdict.cause]
  | notConfigured data hm => simp [hm]
  | illegalOp hm => simp [hm]

end Sys2Proof.Machine

/-! # Discards, faults and FAULTED -/

namespace Sys2Proof.Machine

/-! ## Discards -/

/-- A code and a word that the code map discards yield what the default row yields (R88, R90, R111). -/
theorem measureCode_of_discarded {code : Byte} {word : RawWord} (hT : code ≠ 0x42)
    (hC : code = 0x50 → 3000 < word.toNat) : measureCode wired code word = measureOther := by
  refine (if_neg hT).trans ?_
  by_cases h : code = 0x50
  · exact (if_pos h).trans (measureCo2_of_gt (hC h))
  · exact if_neg h

/-- Settles O13: FRAME's cell in READY for a valid frame, whose measurement is the default row's. -/
theorem discardedFrameIsNoFault : Obligations.DiscardedFrameIsNoFault := by
  intro s data p hs hm hc hp hv hT hC
  obtain ⟨hem, hec⟩ := (validate_ok_iff p).mp hv
  have hnone : measureCode wired (codeOf p) (wordOf p) = measureOther :=
    measureCode_of_discarded hT (by rwa [wordOf_toNat])
  have hkind : (extract wired p).kind = .none := congrArg Measurement.kind hnone
  exact ⟨_, (TransactionEffect.frameValid data hm hp.symm hv).exec_eq hs, rfl, hm, hc, hem, hec, hkind, rfl,
    wordOf_toNat p⟩

/-! ## The conditions of a fault -/

/-- The verdict is BadChecksum exactly when the checksum flag alone is set (R78). -/
theorem validate_badChecksum_iff (p : Frame) :
    (validate p).verdict = .badChecksum ↔ (validate p).em = false ∧ (validate p).ec = true := by
  cases h1 : chkmark p <;> cases h2 : chksum p <;> simp [validate, verdictOf, h1, h2]

/-- The cause of a frame that is not valid, with the flags it is reported with, marker first (R78, R110). -/
theorem validate_cause_flags {p : Frame} (hv : (validate p).verdict ≠ .ok) :
    ((validate p).verdict.cause = .badMarker ∧ (validate p).em = true) ∨
    ((validate p).verdict.cause = .badChecksum ∧ (validate p).em = false ∧ (validate p).ec = true) := by
  cases h : (validate p).verdict with
  | ok => contradiction
  | badMarker => exact .inl ⟨rfl, (validate_em_iff p).mpr h⟩
  | badChecksum => exact .inr ⟨rfl, (validate_badChecksum_iff p).mp h⟩

/-- Settles O29, by the four cells of the mode table that end in a fault, the one of an invalid frame by its cause. -/
theorem faultEntryRecordsModeAndCause : Obligations.FaultEntryRecordsModeAndCause := by
  intro i s t c hi h ho
  obtain ⟨-, e⟩ := transactionEffect_of_exec hi h
  obtain ⟨hfaulted, hcause, -⟩ := e.fault_recorded ho
  cases e with
  | illegalOp hm =>
    cases ho
    exact ⟨hm, hfaulted, hcause, .inl ⟨rfl, rfl⟩⟩
  | cfgLocked flag data hm =>
    cases ho
    exact ⟨by simp [hm], hfaulted, hcause, .inr (.inl ⟨flag, data, rfl, hm, rfl⟩)⟩
  | notConfigured data hm =>
    cases ho
    exact ⟨by simp [hm], hfaulted, hcause, .inr (.inr (.inl ⟨data, rfl, hm, rfl⟩))⟩
  | frameInvalid data hm hp hv =>
    cases ho
    refine ⟨by simp [hm], hfaulted, hcause, .inr (.inr (.inr ?_))⟩
    rcases validate_cause_flags hv with ⟨hc, hem⟩ | ⟨hc, hem, hec⟩
    · exact .inl ⟨data, rfl, hm, hc, hem⟩
    · exact .inr ⟨data, rfl, hm, hc, hem, hec⟩
  | _ => simp at ho

/-! ## FAULTED without RESET -/

/-- A sample that does not assert `rst` presents a command word (R106). -/
theorem PortSample.encoded_of_not_rst {x : PortSample} (hx : x.rst = false) : ∃ w, x.encoded = .command w := by
  obtain ⟨_ | _, _ | w⟩ := x
  · exact ⟨0, rfl⟩
  · exact ⟨w, rfl⟩
  all_goals contradiction

/-- `s` after `n` commands of the host that were all ignored, at least one (R103). -/
def State.afterIgnored (s : State) (n : Nat) : State := { s with inputs := s.inputs.drop n }.reply .ignored

/-- Ignored commands add up. -/
theorem State.afterIgnored_afterIgnored (s : State) (m n : Nat) :
    (s.afterIgnored m).afterIgnored n = s.afterIgnored (m + n) := by
  simp [State.afterIgnored, State.reply]

section
variable {s : State} (hs : s.flight = none) (hrst : ∀ x ∈ s.inputs, x.rst = false)
include hs hrst

/-- Between transactions, where no sample asserts `rst`, a command word is fetched (R97, R106). -/
theorem State.fetch_of_no_rst : ∃ w, s.fetch = .command w := by
  cases hi : s.inputs with
  | nil => exact ⟨0, State.fetch_of_idle_port hs hi⟩
  | cons x rest =>
    rw [(State.fetch_of_idle hs hi).1]
    exact PortSample.encoded_of_not_rst (hrst x (by simp [hi]))

/-- In FAULTED a step without RESET is an ignored command (R103). -/
theorem step_of_faulted (hm : s.mode = .faulted) : step s = .next (s.afterIgnored 1) := by
  obtain ⟨w, hw⟩ := State.fetch_of_no_rst hs hrst
  have hd : decode s.fetch = .ok (decodeCommand w) := by rw [hw]; rfl
  have ha : s.advance = { s with inputs := s.inputs.drop 1 } := by rw [State.advance_of_idle hs, List.drop_one]
  have e := TransactionEffect.ignored (s := s.advance) (decodeCommand_isStage w) (decodeCommand_ne_reset w)
    (by rw [ha]; exact hm)
  rw [e.step_eq hs hd, ha]
  rfl

end

/-- In FAULTED a run without RESET is a run of ignored commands (R115, R117). -/
theorem run_of_faulted (n : Nat) {s : State} (hs : s.flight = none) (hrst : ∀ x ∈ s.inputs, x.rst = false)
    (hm : s.mode = .faulted) : Host.Core.run core (n + 1) s = .next (s.afterIgnored (n + 1)) := by
  rw [run_succ (step_of_faulted hs hrst hm)]
  induction n generalizing s with
  | zero => rfl
  | succ n ih =>
    have hrest : ∀ x ∈ (s.afterIgnored 1).inputs, x.rst = false := fun x hx => hrst x (List.mem_of_mem_drop hx)
    rw [run_succ (step_of_faulted (s := s.afterIgnored 1) hs hrest hm), ih (s := s.afterIgnored 1) hs hrest hm,
      State.afterIgnored_afterIgnored, Nat.add_comm 1]

/-- Settles O30: no step, or a run of ignored commands. -/
theorem faultIsStickyUntilReset : Obligations.FaultIsStickyUntilReset := by
  intro n s hs hm hrst
  cases n with
  | zero => exact ⟨s, rfl, ⟨rfl, rfl, rfl, rfl, rfl, rfl, rfl, rfl⟩, hs, rfl, nofun⟩
  | succ n =>
    exact ⟨_, run_of_faulted n hs hrst hm, ⟨rfl, rfl, rfl, rfl, rfl, rfl, rfl, rfl⟩, hs, rfl, fun _ => rfl⟩

end Sys2Proof.Machine

/-! # A well-used session -/

namespace Sys2Proof.Machine

/-- What R133 lets the host issue after CFG has loaded `seed` and `scr`: NOP (P2) and FRAMEs whose decoded frame is
valid (P3). -/
inductive SessionInstr (seed : Frame) (scr : Bool) : Instr → Prop where
  | nop : SessionInstr seed scr .nop
  | frame (data : BitVec 64) (hv : (validate (decodeFrame wired (bytes data) seed scr)).verdict = .ok) :
      SessionInstr seed scr (.frame data)

/-- The block inside such a session: configured, never faulted, its last transaction performed, and the samples `xs`
still to come. -/
structure InSession (seed : Frame) (scr : Bool) (xs : List PortSample) (s : State) : Prop where
  idle : s.flight = none
  mode : s.mode = .ready
  seed_eq : s.seed = seed
  scr_eq : s.scr = scr
  fcause : s.fcause = .none
  outcome : s.outcome = some .done
  inputs : s.inputs = xs

section
variable {seed : Frame} {scr : Bool} {s : State}

/-- A sample without `rst` selects what its command word selects, or NOP where it has none (R97, R106). -/
theorem SessionInstr.of_sample {x : PortSample} (hrst : x.rst = false)
    (hcmd : ∀ w, x.cmd = some w → SessionInstr seed scr (decodeCommand w)) :
    ∃ i, decode x.encoded = .ok i ∧ SessionInstr seed scr i := by
  obtain ⟨_ | _, _ | w⟩ := x
  · exact ⟨.nop, rfl, .nop⟩
  · exact ⟨_, rfl, hcmd w rfl⟩
  all_goals contradiction

/-- In READY these instructions are performed without a fault (R97, R100). -/
theorem InSession.exists_effect {xs : List PortSample} {i : Instr} (h : InSession seed scr xs s)
    (hi : SessionInstr seed scr i) : ∃ t, TransactionEffect s i t ∧ InSession seed scr xs t := by
  cases hi with
  | nop => exact ⟨_, .nop (by simp [h.mode]), { h with outcome := rfl }⟩
  | frame data hv =>
    have hp : decodeFrame wired (bytes data) s.seed s.scr = decodeFrame wired (bytes data) seed scr := by
      rw [h.seed_eq, h.scr_eq]
    exact ⟨_, .frameValid data h.mode hp hv, { h with outcome := rfl }⟩

/-- A step consumes one sample and the session goes on. -/
theorem InSession.step {x : PortSample} {xs : List PortSample} {i : Instr} (h : InSession seed scr (x :: xs) s)
    (hd : decode x.encoded = .ok i) (hi : SessionInstr seed scr i) :
    ∃ t, Machine.step s = .next t ∧ InSession seed scr xs t := by
  obtain ⟨hf, ha⟩ := State.fetch_of_idle h.idle h.inputs
  have h' : InSession seed scr xs s.advance := by rw [ha]; exact { h with inputs := rfl }
  obtain ⟨t, e, ht⟩ := h'.exists_effect hi
  exact ⟨t, e.step_eq h.idle (by rw [hf, hd]), ht⟩

/-- A run of as many steps as there are samples consumes them all, still in the session. -/
theorem InSession.run {xs : List PortSample} (h : InSession seed scr xs s)
    (hxs : ∀ x ∈ xs, ∃ i, decode x.encoded = .ok i ∧ SessionInstr seed scr i) :
    ∃ t, Host.Core.run core xs.length s = .next t ∧ InSession seed scr [] t := by
  induction xs generalizing s with
  | nil => exact ⟨s, rfl, h⟩
  | cons x xs ih =>
    obtain ⟨⟨i, hd, hi⟩, hrest⟩ := List.forall_mem_cons.mp hxs
    obtain ⟨u, hstep, hu⟩ := h.step hd hi
    rw [List.length_cons, run_succ hstep]
    exact ih hu hrest

end

/-- CFG out of reset opens the session (R98). -/
theorem inSession_of_cfg (flag : Bool) (data : BitVec 64) (xs : List PortSample) :
    ∃ s, step { State.reset with inputs := { rst := false, cmd := some (commandWord 1 flag data) } :: xs } = .next s ∧
      InSession (bytes data) flag xs s := by
  have hd : decode (PortSample.encoded { rst := false, cmd := some (commandWord 1 flag data) }) =
      .ok (.cfg flag data) := congrArg Except.ok (decodeCommand_op1 flag data)
  exact ⟨_, (TransactionEffect.cfg flag data rfl).step_presented rfl hd, ⟨rfl, rfl, rfl, rfl, rfl, rfl, rfl⟩⟩

/-- Settles O46: CFG opens the session, and every later sample keeps the block in it. -/
theorem wellUsedSessionRaisesNoFault : Obligations.WellUsedSessionRaisesNoFault := by
  intro flag seed xs hxs
  obtain ⟨s, hcfg, hs⟩ := inSession_of_cfg flag seed xs
  have hsample : ∀ x ∈ xs, ∃ i, decode x.encoded = .ok i ∧ SessionInstr (bytes seed) flag i := by
    intro x hx
    obtain ⟨hrst, hcmd⟩ := hxs x hx
    refine SessionInstr.of_sample hrst fun w hw => ?_
    rcases hcmd w hw with hw | ⟨data, hw, hv⟩ <;> rw [hw]
    · exact .nop
    · exact .frame data hv
  obtain ⟨t, hrun, ht⟩ := hs.run hsample
  exact ⟨t, (run_succ hcfg _).trans hrun, ht.mode, ht.fcause, ht.outcome, ht.inputs⟩

end Sys2Proof.Machine
